-- ==== Sys2Proof/Word.lean ====
section
/-! DEFINITION. The word types of DG-CORE (00_scope.md R10): u32 and u8. -/

namespace Sys2Proof

/-- A u32: the width of every operand register, control register and table word (R7 REG_WIDTH, R10). -/
abbrev Word := BitVec 32

/-- A u8: one byte of the memory port (R10, R52). -/
abbrev Byte := BitVec 8

end Sys2Proof
end

