-- ==== Sys2Proof/Config.lean ====
section
/-! DEFINITION. The open parameters of 00_scope.md R8, as plain data that a state carries and no step
changes (R219), and the free values: opaque constants for every "any value" of the spec. -/

namespace Sys2Proof

/-- How the Blowfish string commands pack 8 bytes into the halves (R8 BF_WORD_ORDER, R135). -/
inductive WordOrder where
  | big
  | little
deriving DecidableEq, Repr

/-- One region of the platform's answer MEM_ADMIT (R57): the addresses `base .. base+size-1`, and whether the
core may read and write them. -/
structure Region where
  base  : Nat
  size  : Nat
  read  : Bool
  write : Bool
deriving DecidableEq, Repr

/-- The open parameters of R8. `CORE_BASE`, `HOST_BIG_ENDIAN` and `BF_WORD_ORDER` as R8 types them; `MEM_ADMIT`,
a function of an address and a Bool there, is held as the list of the regions it admits (every such function over
2^32 addresses is one of these). Log entry 3. -/
structure Config where
  coreBase      : Word
  admitted      : List Region
  hostBigEndian : Bool
  wordOrder     : WordOrder
deriving DecidableEq, Repr

/-- The places a free word can stand in. -/
inductive FreeSlot where
  | p (i : Nat)
  | s (k j : Nat)
  | mt (i : Nat)
  | mti
  | x (i : Nat)
  | readData
deriving DecidableEq, Repr

/-- "any value" of a register or table word (U2, U4, U6 to U9): the value at a ticket and a place. Nothing
constrains it. Log entry 2. -/
opaque Config.freeWord : Nat → FreeSlot → Word

/-- "any value" of a byte of memory (U2, U4, U10), at a ticket and an address. Log entry 2. -/
opaque Config.freeByte : Nat → Nat → Byte

/-- "any value" of `KEYED` after a fault raised in a Blowfish command's memory accesses (U2). Log entry 2. -/
opaque Config.freeBit : Nat → Bool

/-- How many host moves a command started at a ticket keeps `BUSY` set: finite and not specified (R225, U11).
Log entry 5. -/
opaque Config.latency : Nat → Nat

end Sys2Proof
end

