-- ==== Sys2Proof/Syntax.lean ====
section
/-! DEFINITION. The commands of DG-CORE, one constructor per row of spec/opcode_table.json, and the fields of a
command word (30_encoding.md R71). -/

namespace Sys2Proof

/-- The 29 commands (R73, R74). A command word carries no operands: they are in fixed X registers (R75). -/
inductive Instr where
  | bfInit
  | bfEncrypt
  | bfDecrypt
  | bfEncryptString
  | bfDecryptString
  | mtSeed
  | mtSeedArray
  | mtRand32
  | mtRandFloat
  | mtRandDouble
  | mtRandRange
  | mtSave
  | mtRestore
  | b64EncLen
  | b64Encode
  | b64DecLen
  | b64Decode
  | bswap1
  | bswap2
  | bswap4
  | bswap8
  | fixbo1
  | fixbo2
  | fixbo4
  | fixbo8
  | fixboArray1
  | fixboArray2
  | fixboArray4
  | fixboArray8
deriving DecidableEq, Repr

/-- The fields of a command word (R71): OP in bits 7:0, SZ in bits 11:8, RSV in bits 31:12. -/
structure CommandFields where
  op  : BitVec 8
  sz  : BitVec 4
  rsv : BitVec 20
deriving DecidableEq, Repr

end Sys2Proof
end

