-- ==== Sys2Proof/Machine/State.lean ====
section
/-! DEFINITION. The state of DG-CORE and its host (10_state.md), the fault codes (60_exceptions.md R191), and the
state right after reset (R36). Plain data. -/

namespace Sys2Proof.Machine

/-- No step of this machine stops: every fault the spec describes (R191) is an entry into a next state (R195), and
the spec gives every command an effect. So there is no reason to stop with. -/
inductive Fault where
deriving DecidableEq, Repr

/-- The one refusal. -/
inductive Refusal where
  /-- Raised only by an arm of `exec` whose command has no meaning yet (there is none); safe. -/
  | notModelled (mnemonic : String)
deriving DecidableEq, Repr

/-- The names of R191's fault codes. -/
inductive FaultCode where
  | illegalCmd
  | hostAccess
  | busyViolation
  | notKeyed
  | badKeyLen
  | badBlockLen
  | badB64Char
  | badRange
  | badSeedLen
  | badStateBlob
  | badBuffer
  | lengthOverflow
  | busError
deriving DecidableEq, Repr

/-- The Blowfish schedule (R28): `P[0..17]` and `S[0..3][0..255]`. -/
structure Schedule where
  p : Vector Word 18
  s : Vector (Vector Word 256) 4
deriving DecidableEq, Repr

/-- The Mersenne-Twister engine (R31, R32): the vector `mt[0..623]` and the cursor `mti`. -/
structure Generator where
  mt  : Vector Word 624
  mti : Word
deriving DecidableEq, Repr

/-- The memory behind the memory port (R50): address and byte, addresses strictly rising, no byte listed that
equals what an unlisted address reads as. -/
abbrev Memory := List Host.Cell

/-- The command in progress (R27). Its word is CMD and its operands are X0 to X7, since neither can be written
while BUSY (R23, R25; log entry 6). `left`: the host moves that come before the command ends (R225). `raced`: an
agent has touched the command's ranges in a way R64 forbids. `inputRaced`: one has written a byte of its read ranges,
so that what it reads is not what memory holds. -/
structure Running where
  left       : Nat
  raced      : Bool
  inputRaced : Bool := false
deriving DecidableEq, Repr

/-- One move of the host or of another bus agent, or of the reset input: what the outside world does to the
machine. -/
inductive HostEvent where
  /-- A read of `bytes` bytes at host-bus address `addr`; the machine sees those that hit the window (R22). -/
  | busRead (addr : Word) (bytes : Nat)
  /-- A write of `v`, `bytes` bytes wide, at host-bus address `addr` (R22). -/
  | busWrite (addr : Word) (bytes : Nat) (v : Word)
  /-- A bus agent reads a byte of buffer memory (R63, R64). -/
  | memRead (a : Word)
  /-- A bus agent writes a byte of buffer memory (R63, R64). -/
  | memWrite (a : Word) (b : Byte)
  /-- The host reads STATUS until `BUSY = 0` (R78 WAIT). -/
  | wait
  /-- The reset input is asserted (R215). -/
  | reset
deriving DecidableEq, Repr

/-- All the state the spec gives DG-CORE, the buffer memory, and the host's pending moves. -/
structure State where
  /-- The open parameters (R8), fixed before reset and never changed (R219). -/
  cfg      : Config
  /-- CMD (R23). -/
  cmd      : Word
  /-- STATUS.ERR (R24). -/
  err      : Bool
  /-- STATUS.ERRCODE (R24). -/
  errcode  : Byte
  /-- X0 to X7 (R25). -/
  x        : Vector Word 8
  /-- The command in progress (R27); STATUS.BUSY is 1 exactly when there is one (R26). -/
  running  : Option Running
  /-- `P` and `S` (R28). -/
  sched    : Schedule
  /-- `KEYED` (R29), shown as STATUS.BF_KEYED. -/
  keyed    : Bool
  /-- `mt` and `mti` (R31, R32); STATUS.MT_SEEDED is computed from `mti` (R33). -/
  gen      : Generator
  /-- Buffer memory (R50). -/
  mem      : Memory
  /-- The model's own: the moves the outside world has still to make, in order (R21; log entry 4). -/
  host     : List HostEvent
  /-- The model's own: what the last read of the host or a bus agent returned (log entry 4). -/
  readData : Word
  /-- The model's own: the ticket of the next free value (log entry 2). -/
  ticket   : Nat
deriving DecidableEq, Repr

/-- The schedule of an unspecified value (R28): free words at a ticket. -/
@[irreducible] def Schedule.free (t : Nat) : Schedule :=
  { p := Vector.ofFn (fun i => Config.freeWord t (.p i.val)),
    s := Vector.ofFn (fun k => Vector.ofFn (fun j => Config.freeWord t (.s k.val j.val))) }

/-- The vector of an unspecified value (R31): free words at a ticket. -/
@[irreducible] def Generator.freeVector (t : Nat) : Vector Word 624 :=
  Vector.ofFn (fun i => Config.freeWord t (.mt i.val))

/-- The parameters that `State.reset` stands with: those of 95_test_vectors.md's conventions (log entry 3). -/
def Config.atReset : Config :=
  { coreBase := 0#32, admitted := [{ base := 0, size := 4294967296, read := true, write := true }],
    hostBigEndian := false, wordOrder := .big }

/-- The machine right after reset under given open parameters (R36): CMD, STATUS and X0 to X7 zero, no command
in progress, `KEYED = 0`, `mti = 625`; `P`, `S` and `mt` any value. Memory lists nothing and the host has no move to
make. -/
def State.resetWith (c : Config) : State :=
  { cfg := c, cmd := 0#32, err := false, errcode := 0#8, x := Vector.replicate 8 0#32,
    running := none, sched := Schedule.free 0, keyed := false,
    gen := { mt := Generator.freeVector 0, mti := 625#32 },
    mem := [], host := [], readData := 0#32, ticket := 1 }

/-- The machine right after reset, under the parameters of `Config.atReset`. -/
def State.reset : State := State.resetWith Config.atReset

end Sys2Proof.Machine
end

