-- ==== Sys2Proof/Machine/Ops.lean ====
section
/-! DEFINITION. The named operations over memory, bytes and free values, the loop of the spec's pseudocode, and the
end of a command: normal (`finish`, R26) or by a fault (`raise`, R195). -/

namespace Sys2Proof.Machine

/-- `for k in 0 .. n-1` in increasing order: a later turn sees every write of an earlier one (R13). -/
def forUp {α : Type} (n : Nat) (body : Nat → α → α) (a : α) : α :=
  match n with
  | 0     => a
  | n + 1 => body n (forUp n body a)

/-! ### Bytes (R9, R12) -/

/-- Byte `k` of a 32-bit word: `w[8k+7:8k]` (R9). -/
def byteOf (w : Word) (k : Nat) : Byte := w.extractLsb' (8 * k) 8

/-- The low `n` bytes of `v`, least significant first: what `MemWrite(a, n, v)` writes at `a, a+1, …` (R12). -/
def leBytes : (n : Nat) → (v : Nat) → List Byte
  | 0, _     => []
  | n + 1, v => BitVec.ofNat 8 v :: leBytes n (v / 256)

/-- `sum over k of b[k] << 8k`: what `MemRead` composes (R12). -/
def leValue : List Byte → Nat
  | []      => 0
  | b :: bs => b.toNat + 256 * leValue bs

/-- Consecutive little-endian 32-bit words of a byte sequence (R54). -/
def leWords : List Byte → List Word
  | b0 :: b1 :: b2 :: b3 :: rest => BitVec.ofNat 32 (leValue [b0, b1, b2, b3]) :: leWords rest
  | _                            => []

/-! ### Memory (R50, R52) -/

/-- What an address that memory does not list reads as (log entry 7). -/
def unlisted : Byte := 0#8

/-- `MemRead8` without the admission check: the byte at an address. -/
def readByte : Memory → Nat → Byte
  | [], _             => unlisted
  | (c, x) :: rest, a => if a = c then x else readByte rest a

/-- `MemWrite8` without the admission check, keeping the canonical form. -/
def writeByte : Memory → Nat → Byte → Memory
  | [], a, b             => if b = unlisted then [] else [(a, b)]
  | (c, x) :: rest, a, b =>
      if a < c then (if b = unlisted then (c, x) :: rest else (a, b) :: (c, x) :: rest)
      else if a = c then (if b = unlisted then rest else (a, b) :: rest)
      else (c, x) :: writeByte rest a b

/-- The bytes at `a, a+1, …, a+n-1`. -/
def readBytes (m : Memory) (a n : Nat) : List Byte := (List.range n).map (fun k => readByte m (a + k))

/-- Write bytes at `a, a+1, …`. -/
def writeBytes : Memory → Nat → List Byte → Memory
  | m, _, []      => m
  | m, a, b :: bs => writeBytes (writeByte m a b) (a + 1) bs

/-- The size of the memory port's address space (R50). -/
def spaceSize : Nat := 4294967296

/-- The canonical form: addresses of the space, strictly rising, no byte equal to the unlisted one. -/
def Memory.wf : Memory → Bool
  | []             => true
  | (c, x) :: rest =>
      decide (c < spaceSize) && x != unlisted && rest.all (fun cell => decide (c < cell.1)) && Memory.wf rest

/-- MEM_ADMIT (R57): may the core read (`write = false`) or write (`write = true`) the byte at `a`? -/
def memAdmit (c : Config) (a : Nat) (write : Bool) : Bool :=
  c.admitted.any (fun r => decide (r.base ≤ a ∧ a < r.base + r.size) && (if write then r.write else r.read))

/-- Every byte of `a .. a+n-1` is admitted. -/
def admitsAll (c : Config) (a n : Nat) (write : Bool) : Bool :=
  (List.range n).all (fun k => memAdmit c (a + k) write)

/-- Read a range through the memory port; `none` is `BUS_ERROR` (R57). -/
def loadBytes (s : State) (a n : Nat) : Option (List Byte) :=
  if admitsAll s.cfg a n false then some (readBytes s.mem a n) else none

/-- Write a range through the memory port; `none` is `BUS_ERROR` (R57). -/
def storeBytes (s : State) (a : Nat) (bs : List Byte) : Option State :=
  if admitsAll s.cfg a bs.length true then some { s with mem := writeBytes s.mem a bs } else none

/-! ### A command's end -/

/-- The value of a fault code in `STATUS.ERRCODE` (R191). -/
def FaultCode.code : FaultCode → Byte
  | .illegalCmd     => 0x01#8
  | .hostAccess     => 0x02#8
  | .busyViolation  => 0x03#8
  | .notKeyed       => 0x04#8
  | .badKeyLen      => 0x05#8
  | .badBlockLen    => 0x06#8
  | .badB64Char     => 0x07#8
  | .badRange       => 0x08#8
  | .badSeedLen     => 0x09#8
  | .badStateBlob   => 0x0A#8
  | .badBuffer      => 0x0B#8
  | .lengthOverflow => 0x0C#8
  | .busError       => 0x0D#8

/-- Fault entry (R195): the first code is kept, ERR is set, the running command, if any, ends and BUSY is clear. -/
def raise (c : FaultCode) (s : State) : State :=
  { s with errcode := if s.err then s.errcode else c.code, err := true, running := none }

/-- The normal end of a command (R26): BUSY is clear. -/
def finish (s : State) : State := { s with running := none }

end Sys2Proof.Machine
end

