-- ==== Sys2Proof/Machine/Base64Code.lean ====
section
/-! DEFINITION. The Base64 code as functions of bytes (42_base64.md): the alphabet and its inverse, the encoding, the
padding, the legal groups and the decoding. -/

namespace Sys2Proof.Machine

/-- The pad character `=` (R100). -/
def padChar : Byte := 0x3D#8

/-- `ALPHA[v]` (R100), by the rows of its table. -/
def alpha (v : BitVec 6) : Byte :=
  if v.toNat ≤ 25 then BitVec.ofNat 8 (0x41 + v.toNat)
  else if v.toNat ≤ 51 then BitVec.ofNat 8 (0x61 + (v.toNat - 26))
  else if v.toNat ≤ 61 then BitVec.ofNat 8 (0x30 + (v.toNat - 52))
  else if v.toNat = 62 then 0x2B#8
  else 0x2F#8

/-- What `INV(c)` can be (R101). -/
inductive Sextet where
  | data (v : BitVec 6)
  | pad
  | invalid
deriving DecidableEq, Repr

/-- `INV(c)` (R101). -/
def inv (c : Byte) : Sextet :=
  let n := c.toNat
  if 0x41 ≤ n ∧ n ≤ 0x5A then .data (BitVec.ofNat 6 (n - 0x41))
  else if 0x61 ≤ n ∧ n ≤ 0x7A then .data (BitVec.ofNat 6 (n - 0x61 + 26))
  else if 0x30 ≤ n ∧ n ≤ 0x39 then .data (BitVec.ofNat 6 (n - 0x30 + 52))
  else if n = 0x2B then .data 62#6
  else if n = 0x2F then .data 63#6
  else if n = 0x3D then .pad
  else .invalid

/-- `INV(c)` in 0..63. -/
def isData (c : Byte) : Bool :=
  match inv c with
  | .data _  => true
  | .pad     => false
  | .invalid => false

/-- The sextet a character contributes: its `INV`, and 0 for a pad (R107, D26). -/
def sextetOf (c : Byte) : BitVec 6 :=
  match inv c with
  | .data v  => v
  | .pad     => 0#6
  | .invalid => 0#6

/-- The four characters of a group of `r` source bytes, absent ones taken as 0 (R103). -/
def encGroup (r : Nat) (b0 b1 b2 : Byte) : List Byte :=
  let bits : BitVec 24 := b0 ++ b1 ++ b2
  [alpha (bits.extractLsb' 18 6), alpha (bits.extractLsb' 12 6),
    if 2 ≤ r then alpha (bits.extractLsb' 6 6) else padChar,
    if 3 ≤ r then alpha (bits.extractLsb' 0 6) else padChar]

/-- The characters of a source byte sequence, group after group (R103). -/
def b64Encode : List Byte → List Byte
  | []                     => []
  | [b0]                   => encGroup 1 b0 0#8 0#8
  | [b0, b1]               => encGroup 2 b0 b1 0#8
  | b0 :: b1 :: b2 :: rest => encGroup 3 b0 b1 b2 ++ b64Encode rest

/-- R105: the characters followed by `=` up to the next multiple of 4. -/
def padTo4 (cs : List Byte) : List Byte :=
  cs ++ List.replicate (4 * ((cs.length + 3) / 4) - cs.length) padChar

/-- A legal group (R106): all data, or, in the final group, a data prefix and pads to the end with the first
character data. -/
def legalGroup (final : Bool) (q0 q1 q2 q3 : Byte) : Bool :=
  isData q0 &&
    ((isData q1 && isData q2 && isData q3) ||
      (final &&
        ((isData q1 && isData q2 && q3 == padChar) || (isData q1 && q2 == padChar && q3 == padChar) ||
          (q1 == padChar && q2 == padChar && q3 == padChar))))

/-- The bytes that a group keeps (R107): three, less the suppressed ones. -/
def decGroup (q0 q1 q2 q3 : Byte) : List Byte :=
  let bits : BitVec 24 := sextetOf q0 ++ sextetOf q1 ++ sextetOf q2 ++ sextetOf q3
  let keep := if q2 = padChar then 1 else if q3 = padChar then 2 else 3
  [bits.extractLsb' 16 8, bits.extractLsb' 8 8, bits.extractLsb' 0 8].take keep

/-- The decoding of a sequence of whole groups (R107): the bytes of the legal groups before the first illegal one,
and whether every group is legal. -/
def decGroups : List Byte → List Byte × Bool
  | q0 :: q1 :: q2 :: q3 :: rest =>
      if legalGroup rest.isEmpty q0 q1 q2 q3 then
        let later := decGroups rest
        (decGroup q0 q1 q2 q3 ++ later.1, later.2)
      else ([], false)
  | _ => ([], true)

/-- The decoding of a character sequence of any length (R105, R107). -/
def b64Decode (cs : List Byte) : List Byte × Bool := decGroups (padTo4 cs)

end Sys2Proof.Machine
end

