-- ==== Sys2Proof/Machine/Operands.lean ====
section
/-! DEFINITION. Operands: the X registers and the pair X1:X0 (00_scope.md R11, 10_state.md R25), the range checks of
20_memory.md R58 and R59, and the Base64 lengths of R102 and R104 that ranges are made of. -/

namespace Sys2Proof.Machine

/-- `X[i] <- v` (R11). -/
def setX (i : Fin 8) (v : Word) (s : State) : State := { s with x := s.x.set i v }

/-- `PAIR(0) = X[1] ++ X[0]` (R11). -/
def pair0 (s : State) : BitVec 64 := s.x[1] ++ s.x[0]

/-- `PAIR(0) <- v`: the low word to X0, the high word to X1 (R11). -/
def setPair0 (v : BitVec 64) (s : State) : State :=
  setX 1 (v.extractLsb' 32 32) (setX 0 (v.extractLsb' 0 32) s)

/-- A range of bytes `[base, base+len)`, exact (R58). -/
structure Range where
  base : Nat
  len  : Nat
deriving DecidableEq, Repr

/-- `WellFormed(a, n)` (R58): empty, or not past address 0xFFFFFFFF. -/
def Range.ok (r : Range) : Bool := decide (r.len = 0 ∨ r.base + r.len ≤ spaceSize)

/-- `Overlap(a, n, b, m)` (R59): both non-empty and a byte in common. -/
def Range.overlaps (r q : Range) : Bool :=
  decide (0 < r.len ∧ 0 < q.len ∧ r.base < q.base + q.len ∧ q.base < r.base + r.len)

/-- Is the address in the range? -/
def Range.has (r : Range) (a : Nat) : Bool := decide (r.base ≤ a ∧ a < r.base + r.len)

/-- `EL(n) = 4 * ceil(n / 3)` (R102). -/
def encLen (n : Nat) : Nat := 4 * ((n + 2) / 3)

/-- `DL(n) = 3 * ceil(n / 4)` (R104). -/
def decLen (n : Nat) : Nat := 3 * ((n + 3) / 4)

/-- The blob's size (R7 MT_BLOB_BYTES, R173). -/
def blobBytes : Nat := 2500

end Sys2Proof.Machine
end

