-- ==== Sys2Proof/Machine/Ranges.lean ====
section
/-! DEFINITION. What a command touches: its read and write ranges (20_memory.md R51), its engine and its result
registers (30_encoding.md, operand summary), and from these the "any value" effects of a fault raised in the memory
accesses (60_exceptions.md R196), of an abort (R192, R216) and of a race (R64). -/

namespace Sys2Proof.Machine

/-- The FIXBO_ARRAY range (R51): `[X0, X1)` when HOST_BIG_ENDIAN and the size is more than 1. -/
def swapRange (sz : Nat) (s : State) : List Range :=
  if s.cfg.hostBigEndian ∧ 1 < sz then [{ base := s.x[0].toNat, len := s.x[1].toNat - s.x[0].toNat }] else []

/-- The read ranges of R51. -/
def readRanges (i : Instr) (s : State) : List Range :=
  match i with
  | .bfInit | .bfEncryptString | .bfDecryptString => [{ base := s.x[0].toNat, len := s.x[1].toNat }]
  | .mtSeedArray => [{ base := s.x[0].toNat, len := 4 * s.x[1].toNat }]
  | .mtRestore => [{ base := s.x[0].toNat, len := blobBytes }]
  | .b64Encode | .b64Decode => [{ base := s.x[1].toNat, len := s.x[2].toNat }]
  | .fixboArray1 => swapRange 1 s
  | .fixboArray2 => swapRange 2 s
  | .fixboArray4 => swapRange 4 s
  | .fixboArray8 => swapRange 8 s
  | .bfEncrypt | .bfDecrypt | .mtSeed | .mtRand32 | .mtRandFloat | .mtRandDouble | .mtRandRange | .mtSave
  | .b64EncLen | .b64DecLen | .bswap1 | .bswap2 | .bswap4 | .bswap8 | .fixbo1 | .fixbo2 | .fixbo4 | .fixbo8 => []

/-- The length of the "prefix of [X0, X0+DL(X2)) of the returned length" that B64_DECODE writes (R51): what the legal
groups before the first illegal one give. Where a source byte is refused there is no returned length, and it is all of
DL(X2) (log entry 10). -/
def decodeReach (s : State) : Nat :=
  match loadBytes s s.x[1].toNat s.x[2].toNat with
  | none    => decLen s.x[2].toNat
  | some cs => (b64Decode cs).1.length

/-- The write ranges of R51. -/
def writeRanges (i : Instr) (s : State) : List Range :=
  match i with
  | .bfEncryptString | .bfDecryptString => [{ base := s.x[2].toNat, len := s.x[1].toNat }]
  | .mtSave => if blobBytes ≤ s.x[1].toNat then [{ base := s.x[0].toNat, len := blobBytes }] else []
  | .b64Encode => [{ base := s.x[0].toNat, len := encLen s.x[2].toNat }]
  | .b64Decode => [{ base := s.x[0].toNat, len := decodeReach s }]
  | .fixboArray1 => swapRange 1 s
  | .fixboArray2 => swapRange 2 s
  | .fixboArray4 => swapRange 4 s
  | .fixboArray8 => swapRange 8 s
  | .bfInit | .bfEncrypt | .bfDecrypt | .mtSeed | .mtSeedArray | .mtRand32 | .mtRandFloat | .mtRandDouble
  | .mtRandRange | .mtRestore | .b64EncLen | .b64DecLen | .bswap1 | .bswap2 | .bswap4 | .bswap8 | .fixbo1 | .fixbo2
  | .fixbo4 | .fixbo8 => []

/-- The engine a command belongs to (R1, R6). -/
inductive Engine where
  | blowfish
  | mersenne
  | base64
  | byteOrder
deriving DecidableEq, Repr

/-- R73's groups. -/
def engineOf : Instr → Engine
  | .bfInit | .bfEncrypt | .bfDecrypt | .bfEncryptString | .bfDecryptString => .blowfish
  | .mtSeed | .mtSeedArray | .mtRand32 | .mtRandFloat | .mtRandDouble | .mtRandRange | .mtSave | .mtRestore =>
      .mersenne
  | .b64EncLen | .b64Encode | .b64DecLen | .b64Decode => .base64
  | .bswap1 | .bswap2 | .bswap4 | .bswap8 | .fixbo1 | .fixbo2 | .fixbo4 | .fixbo8
  | .fixboArray1 | .fixboArray2 | .fixboArray4 | .fixboArray8 => .byteOrder

/-- The result registers (30_encoding.md, operand summary, "results written"). -/
def resultRegs : Instr → List (Fin 8)
  | .bfEncrypt | .bfDecrypt | .mtRandDouble | .bswap8 | .fixbo8 => [0, 1]
  | .bfEncryptString | .bfDecryptString => [3]
  | .mtRand32 | .mtRandFloat | .mtRandRange | .mtSave | .b64EncLen | .b64Encode | .b64DecLen | .b64Decode
  | .bswap1 | .bswap2 | .bswap4 | .fixbo1 | .fixbo2 | .fixbo4 => [0]
  | .bfInit | .mtSeed | .mtSeedArray | .mtRestore | .fixboArray1 | .fixboArray2 | .fixboArray4 | .fixboArray8 => []

/-! ### "Any value" -/

/-- Every byte of a range, as far as the address space goes, takes a free value at ticket `t`. -/
def freeRange (t : Nat) (m : Memory) (r : Range) : Memory :=
  writeBytes m r.base
    ((List.range (min r.len (spaceSize - r.base))).map (fun k => Config.freeByte t (r.base + k)))

/-- Every byte of each range takes a free value. -/
def freeRanges (t : Nat) (m : Memory) (rs : List Range) : Memory := rs.foldl (freeRange t) m

/-- The cursor's free value: any of 0 to 625, the bound that R32 sets (log entry 9). -/
def freeCursor (t : Nat) : Word := BitVec.ofNat 32 ((Config.freeWord t .mti).toNat % 626)

/-- An engine's internal state takes free values: `P`, `S`, `KEYED`, or `mt`, `mti` (R196). -/
def freeEngine (t : Nat) (e : Engine) (s : State) : State :=
  match e with
  | .blowfish  => { s with sched := Schedule.free t, keyed := Config.freeBit t }
  | .mersenne  => { s with gen := { mt := Generator.freeVector t, mti := freeCursor t } }
  | .base64    => s
  | .byteOrder => s

/-- R196, second item: the bytes of the given ranges and the engine's internal state hold any value; the
X registers are unchanged. -/
def spoil (i : Instr) (rs : List Range) (s : State) : State :=
  { freeEngine s.ticket (engineOf i) { s with mem := freeRanges s.ticket s.mem rs } with ticket := s.ticket + 1 }

/-- A fault raised during or after the command's first memory access (R195, R196). -/
def midFault (c : FaultCode) (i : Instr) (s : State) : State := raise c (spoil i (writeRanges i s) s)

/-! ### Races -/

/-- An agent has written what the command in progress reads. -/
def inputRaced (s : State) : Bool :=
  match s.running with
  | none   => false
  | some r => r.inputRaced

/-- The command in progress has been raced (R64). -/
def isRaced (s : State) : Bool :=
  match s.running with
  | none   => false
  | some r => r.raced

/-- What the command in progress may write: its write ranges, and for B64_DECODE of raced characters, whose returned
length is then any, all of `[X0, X0+DL(X2))` (log entry 11). -/
def openRanges (i : Instr) (s : State) : List Range :=
  if i = .b64Decode ∧ inputRaced s = true then [{ base := s.x[0].toNat, len := decLen s.x[2].toNat }]
  else writeRanges i s

/-- The result registers named take free values. -/
def freeResults (t : Nat) (rs : List (Fin 8)) (s : State) : State :=
  { s with x := rs.foldl (fun (x : Vector Word 8) (r : Fin 8) => x.set r (Config.freeWord t (.x r.val))) s.x }

end Sys2Proof.Machine
end

