-- ==== Sys2Proof/Machine/Base64.lean ====
section
/-! DEFINITION. The Base64 commands (42_base64.md), over the code of Base64Code.lean. -/

namespace Sys2Proof.Machine

/-- B64_ENCLEN (R102). -/
def b64EncLen (s : State) : State :=
  if 4294967295 < encLen s.x[0].toNat then raise .lengthOverflow s
  else finish (setX 0 (BitVec.ofNat 32 (encLen s.x[0].toNat)) s)

/-- B64_ENCODE (R103). -/
def b64EncodeCmd (s : State) : State :=
  let dest := s.x[0].toNat
  let src := s.x[1].toNat
  let n := s.x[2].toNat
  if 4294967295 < encLen n then raise .lengthOverflow s
  else if !({ base := src, len := n : Range }).ok then raise .badBuffer s
  else if !({ base := dest, len := encLen n : Range }).ok then raise .badBuffer s
  else if ({ base := src, len := n : Range }).overlaps { base := dest, len := encLen n } then raise .badBuffer s
  else
    match loadBytes s src n with
    | none    => midFault .busError .b64Encode s
    | some bs =>
      match storeBytes s dest (b64Encode bs) with
      | none    => midFault .busError .b64Encode s
      | some s' => finish (setX 0 (BitVec.ofNat 32 (encLen n)) s')

/-- B64_DECLEN (R104). -/
def b64DecLen (s : State) : State := finish (setX 0 (BitVec.ofNat 32 (decLen s.x[0].toNat)) s)

/-- B64_DECODE (R107). An illegal group spoils the write range, what the groups before it have written (R196; log
entry 10). The source is read whole before the first group (log entry 17). -/
def b64DecodeCmd (s : State) : State :=
  let dest := s.x[0].toNat
  let src := s.x[1].toNat
  let n := s.x[2].toNat
  if !({ base := src, len := n : Range }).ok then raise .badBuffer s
  else if !({ base := dest, len := decLen n : Range }).ok then raise .badBuffer s
  else if ({ base := src, len := n : Range }).overlaps { base := dest, len := decLen n } then raise .badBuffer s
  else
    match loadBytes s src n with
    | none    => midFault .busError .b64Decode s
    | some cs =>
      let out := b64Decode cs
      match storeBytes s dest out.1 with
      | none    => midFault .busError .b64Decode s
      | some s' =>
        if out.2 then finish (setX 0 (BitVec.ofNat 32 out.1.length) s')
        else midFault .badB64Char .b64Decode s

/-- B64_ENCLEN (R102). -/
def execB64EncLen (s : State) : Host.Outcome State Fault Refusal := .next (b64EncLen s)
/-- B64_ENCODE (R103). -/
def execB64Encode (s : State) : Host.Outcome State Fault Refusal := .next (b64EncodeCmd s)
/-- B64_DECLEN (R104). -/
def execB64DecLen (s : State) : Host.Outcome State Fault Refusal := .next (b64DecLen s)
/-- B64_DECODE (R107). -/
def execB64Decode (s : State) : Host.Outcome State Fault Refusal := .next (b64DecodeCmd s)

end Sys2Proof.Machine
end

