-- ==== Sys2Proof/Machine/Blowfish.lean ====
section
/-! DEFINITION. The Blowfish commands (43_blowfish.md). -/

namespace Sys2Proof.Machine

/-- `P[i]`. -/
def Schedule.pw (sc : Schedule) (i : Nat) : Word := sc.p.getD i 0#32

/-- `S[k][b]` for a byte `b`. -/
def Schedule.box (sc : Schedule) (k : Fin 4) (b : Byte) : Word := sc.s[k][b.toNat]'b.isLt

/-- `P[i] <- v`. -/
def Schedule.setP (i : Nat) (v : Word) (sc : Schedule) : Schedule := { sc with p := sc.p.setIfInBounds i v }

/-- `S[k][j] <- v`. -/
def Schedule.setS (k : Fin 4) (j : Nat) (v : Word) (sc : Schedule) : Schedule :=
  { sc with s := sc.s.set k (sc.s[k].setIfInBounds j v) }

/-- The round function F (R121): byte 3 is `a`, byte 0 is `d`. -/
def bfF (sc : Schedule) (x : Word) : Word :=
  ((sc.box 0 (byteOf x 3) + sc.box 1 (byteOf x 2)) ^^^ sc.box 2 (byteOf x 1)) + sc.box 3 (byteOf x 0)

/-- One round with round key `key`, the swap included (R122, R123). -/
def bfRound (sc : Schedule) (key : Word) (b : Word × Word) : Word × Word :=
  let xl := b.1 ^^^ key
  (b.2 ^^^ bfF sc xl, xl)

/-- `BF_E(xl, xr)` (R122). -/
def bfE (sc : Schedule) (xl xr : Word) : Word × Word :=
  let b := forUp 16 (fun i b => bfRound sc (sc.pw i) b) (xl, xr)
  (b.2 ^^^ sc.pw 17, b.1 ^^^ sc.pw 16)

/-- `BF_D(xl, xr)` (R123): the round keys 17 down to 2, then `P[1]` and `P[0]`. -/
def bfD (sc : Schedule) (xl xr : Word) : Word × Word :=
  let b := forUp 16 (fun i b => bfRound sc (sc.pw (17 - i)) b) (xl, xr)
  (b.2 ^^^ sc.pw 0, b.1 ^^^ sc.pw 1)

/-- The initial tables (R125). -/
@[irreducible] def initialSchedule : Schedule :=
  { p := Vector.ofFn (fun i : Fin 18 => piWord i.val),
    s := Vector.ofFn (fun k : Fin 4 => Vector.ofFn (fun j : Fin 256 => piWord (18 + 256 * k.val + j.val))) }

/-- R127's inner loop: four key bytes from cursor `j` on, the first most significant, and the next cursor. -/
def keyWord (key : List Byte) (j : Nat) : Word × Nat :=
  forUp 4 (fun _ dj => ((dj.1 <<< 8) ||| (key.getD dj.2 0#8).setWidth 32, (dj.2 + 1) % key.length)) (0#32, j)

/-- Key mixing (R127). -/
def mixKey (key : List Byte) (sc : Schedule) : Schedule :=
  (forUp 18 (fun i a =>
    let dj := keyWord key a.2
    (a.1.setP i (a.1.pw i ^^^ dj.1), dj.2)) (sc, 0)).1

/-- The running block and the schedule as it stands, during the fill (R128, R129). -/
structure Fill where
  sc : Schedule
  l  : Word
  r  : Word
deriving DecidableEq, Repr

/-- One encryption of the running block and the two words it fills (R128, R129). -/
def fillStep (put : Word → Word → Schedule → Schedule) (f : Fill) : Fill :=
  let b := bfE f.sc f.l f.r
  { sc := put b.1 b.2 f.sc, l := b.1, r := b.2 }

/-- The table fill (R128): 9 encryptions for P, then 128 for each S-box in turn, each with the schedule as the
earlier ones left it (R129). -/
def fillTables (sc : Schedule) : Schedule :=
  let afterP := forUp 9 (fun m f => fillStep (fun l r sc => (sc.setP (2 * m) l).setP (2 * m + 1) r) f)
    { sc := sc, l := 0#32, r := 0#32 }
  let box (k : Fin 4) (f : Fill) : Fill :=
    forUp 128 (fun m f => fillStep (fun l r sc => (sc.setS k (2 * m) l).setS k (2 * m + 1) r) f) f
  (box 3 (box 2 (box 1 (box 0 afterP)))).sc

/-- The schedule of a key (R131): the initial tables, the key mixed into P, then the fill. -/
@[irreducible] def keySchedule (key : List Byte) : Schedule := fillTables (mixKey key initialSchedule)

/-! ### Packing (R135) -/

/-- A half from four bytes at increasing addresses. -/
def packHalf (o : WordOrder) (b0 b1 b2 b3 : Byte) : Word :=
  match o with
  | .big    => b0 ++ b1 ++ b2 ++ b3
  | .little => b3 ++ b2 ++ b1 ++ b0

/-- A half as four bytes at increasing addresses. -/
def unpackHalf (o : WordOrder) (w : Word) : List Byte :=
  match o with
  | .big    => [byteOf w 3, byteOf w 2, byteOf w 1, byteOf w 0]
  | .little => [byteOf w 0, byteOf w 1, byteOf w 2, byteOf w 3]

/-- A byte string through a block function, 8 bytes a block, each block alone (R136: ECB). -/
def onBlocks (o : WordOrder) (f : Word → Word → Word × Word) : List Byte → List Byte
  | b0 :: b1 :: b2 :: b3 :: b4 :: b5 :: b6 :: b7 :: rest =>
      let c := f (packHalf o b0 b1 b2 b3) (packHalf o b4 b5 b6 b7)
      unpackHalf o c.1 ++ unpackHalf o c.2 ++ onBlocks o f rest
  | _ => []

/-! ### Commands -/

/-- BF_INIT (R131), with the key length check of R126. -/
def bfInit (s : State) : State :=
  let keyAddr := s.x[0].toNat
  let keyLen := s.x[1].toNat
  if ¬(1 ≤ keyLen ∧ keyLen ≤ 56) then raise .badKeyLen s
  else if !({ base := keyAddr, len := keyLen : Range }).ok then raise .badBuffer s
  else
    match loadBytes s keyAddr keyLen with
    | none     => midFault .busError .bfInit s
    | some key => finish { s with sched := keySchedule key, keyed := true }

/-- The block commands (R133, R134): the check of R132, then X0 and X1 through the block function. -/
def bfBlock (f : Schedule → Word → Word → Word × Word) (s : State) : State :=
  if s.keyed then
    let b := f s.sched s.x[0] s.x[1]
    finish (setX 1 b.2 (setX 0 b.1 s))
  else raise .notKeyed s

/-- The string commands (R136, R137); `i` is the command, for the ranges that a bus error spoils. -/
def bfString (i : Instr) (f : Schedule → Word → Word → Word × Word) (s : State) : State :=
  let src := s.x[0].toNat
  let len := s.x[1].toNat
  let dst := s.x[2].toNat
  if !s.keyed then raise .notKeyed s
  else if len % 8 ≠ 0 then raise .badBlockLen s
  else if !({ base := src, len := len : Range }).ok then raise .badBuffer s
  else if !({ base := dst, len := len : Range }).ok then raise .badBuffer s
  else if dst ≠ src ∧ ({ base := src, len := len : Range }).overlaps { base := dst, len := len } then
    raise .badBuffer s
  else
    match loadBytes s src len with
    | none    => midFault .busError i s
    | some bs =>
      match storeBytes s dst (onBlocks s.cfg.wordOrder (f s.sched) bs) with
      | none    => midFault .busError i s
      | some s' => finish (setX 3 s.x[1] s')

/-- BF_INIT (R131). -/
def execBfInit (s : State) : Host.Outcome State Fault Refusal := .next (bfInit s)
/-- BF_ENCRYPT (R133). -/
def execBfEncrypt (s : State) : Host.Outcome State Fault Refusal := .next (bfBlock bfE s)
/-- BF_DECRYPT (R134). -/
def execBfDecrypt (s : State) : Host.Outcome State Fault Refusal := .next (bfBlock bfD s)
/-- BF_ENCRYPT_STRING (R136). -/
def execBfEncryptString (s : State) : Host.Outcome State Fault Refusal := .next (bfString .bfEncryptString bfE s)
/-- BF_DECRYPT_STRING (R137). -/
def execBfDecryptString (s : State) : Host.Outcome State Fault Refusal := .next (bfString .bfDecryptString bfD s)

end Sys2Proof.Machine
end

