-- ==== Sys2Proof/Machine/ByteOrder.lean ====
section
/-! DEFINITION. The byte-order commands (41_byteorder.md). -/

namespace Sys2Proof.Machine

/-- `REV(n, v)` (R90): byte `k` of the result is byte `n-1-k` of the low `n` bytes of `v`. -/
def rev (n v : Nat) : Nat := leValue (leBytes n v).reverse

/-- The low `n` bytes of `v`, as a number: `v[8n-1:0]`. -/
def lowBytes (n v : Nat) : Nat := leValue (leBytes n v)

/-- The register form of R91 and R92: for size 8 the pair takes `f 8` of itself, for the others X0 takes the
zero-extended `f sz` of its low bytes. -/
def onRegister (f : Nat → Nat → Nat) (sz : Nat) (s : State) : State :=
  if sz = 8 then setPair0 (BitVec.ofNat 64 (f 8 (pair0 s).toNat)) s
  else setX 0 (BitVec.ofNat 32 (f sz s.x[0].toNat)) s

/-- BSWAP.sz (R91). -/
def bswap (sz : Nat) (s : State) : State := finish (onRegister rev sz s)

/-- FIXBO.sz (R92): BSWAP.sz when HOST_BIG_ENDIAN, else the operand itself, zero-extended. -/
def fixbo (sz : Nat) (s : State) : State :=
  finish (onRegister (fun n v => if s.cfg.hostBigEndian then rev n v else lowBytes n v) sz s)

/-- Reverse each of `n` elements of `sz` bytes. -/
def swapElements (sz : Nat) : (n : Nat) → List Byte → List Byte
  | 0, _      => []
  | n + 1, bs => (bs.take sz).reverse ++ swapElements sz n (bs.drop sz)

/-- FIXBO_ARRAY.sz (R94); `i` is the command, for the ranges that a bus error spoils. -/
def fixboArray (i : Instr) (sz : Nat) (s : State) : State :=
  let start := s.x[0].toNat
  let finishAt := s.x[1].toNat
  if finishAt < start then raise .badBuffer s
  else if (finishAt - start) % sz ≠ 0 then raise .badBuffer s
  else if s.cfg.hostBigEndian ∧ 1 < sz then
    match loadBytes s start (finishAt - start) with
    | none    => midFault .busError i s
    | some bs =>
      match storeBytes s start (swapElements sz ((finishAt - start) / sz) bs) with
      | none    => midFault .busError i s
      | some s' => finish s'
  else finish s

/-- BSWAP.1 (R91). -/
def execBswap1 (s : State) : Host.Outcome State Fault Refusal := .next (bswap 1 s)
/-- BSWAP.2 (R91). -/
def execBswap2 (s : State) : Host.Outcome State Fault Refusal := .next (bswap 2 s)
/-- BSWAP.4 (R91). -/
def execBswap4 (s : State) : Host.Outcome State Fault Refusal := .next (bswap 4 s)
/-- BSWAP.8 (R91). -/
def execBswap8 (s : State) : Host.Outcome State Fault Refusal := .next (bswap 8 s)
/-- FIXBO.1 (R92). -/
def execFixbo1 (s : State) : Host.Outcome State Fault Refusal := .next (fixbo 1 s)
/-- FIXBO.2 (R92). -/
def execFixbo2 (s : State) : Host.Outcome State Fault Refusal := .next (fixbo 2 s)
/-- FIXBO.4 (R92). -/
def execFixbo4 (s : State) : Host.Outcome State Fault Refusal := .next (fixbo 4 s)
/-- FIXBO.8 (R92). -/
def execFixbo8 (s : State) : Host.Outcome State Fault Refusal := .next (fixbo 8 s)
/-- FIXBO_ARRAY.1 (R94). -/
def execFixboArray1 (s : State) : Host.Outcome State Fault Refusal := .next (fixboArray .fixboArray1 1 s)
/-- FIXBO_ARRAY.2 (R94). -/
def execFixboArray2 (s : State) : Host.Outcome State Fault Refusal := .next (fixboArray .fixboArray2 2 s)
/-- FIXBO_ARRAY.4 (R94). -/
def execFixboArray4 (s : State) : Host.Outcome State Fault Refusal := .next (fixboArray .fixboArray4 4 s)
/-- FIXBO_ARRAY.8 (R94). -/
def execFixboArray8 (s : State) : Host.Outcome State Fault Refusal := .next (fixboArray .fixboArray8 8 s)

end Sys2Proof.Machine
end

