-- ==== Sys2Proof/Machine/Float.lean ====
section
/-! DEFINITION. The floating-point values of 00_scope.md R14, by exact integer arithmetic: a non-negative value is
held as an integer `n` over a fixed power of two, `n / 2^k`. Every value the commands meet is 0 or lies in
[2^-53, 2^32], inside the normal range of both formats, so rounding is rounding to 53 or 24 significant bits
(log entry 8). -/

namespace Sys2Proof.Machine

/-- The integer nearest `a / b`, a tie to the even one (the rule of R14). -/
def roundDiv (a b : Nat) : Nat :=
  let q := a / b
  let r := a % b
  if 2 * r < b then q
  else if b < 2 * r then q + 1
  else if q % 2 = 0 then q else q + 1

/-- How many bits `n` has above its top `prec` ones. -/
def excessBits (prec n : Nat) : Nat := n.log2 + 1 - prec

/-- `n` rounded to `prec` significant bits, a tie to the even significand: `RNE64` for `prec = 53`, `RNE32` for 24,
of `n` over any power of two in the normal range (R14). -/
def roundSig (prec n : Nat) : Nat :=
  roundDiv n (2 ^ excessBits prec n) * 2 ^ excessBits prec n

/-- The significand field of `n`, a number of at most `frac + 1` significant bits: the `frac` bits below its top
bit. -/
def fracField (frac n : Nat) : Nat :=
  (if frac ≤ n.log2 then n / 2 ^ (n.log2 - frac) else n * 2 ^ (frac - n.log2)) % 2 ^ frac

/-- `bits32(n / 2^k)` (R14) of a value that binary32 holds exactly. -/
def bits32 (n k : Nat) : BitVec 32 :=
  if n = 0 then 0#32 else BitVec.ofNat 32 ((n.log2 + 127 - k) * 2 ^ 23 + fracField 23 n)

/-- `bits64(n / 2^k)` (R14) of a value that binary64 holds exactly. -/
def bits64 (n k : Nat) : BitVec 64 :=
  if n = 0 then 0#64 else BitVec.ofNat 64 ((n.log2 + 1023 - k) * 2 ^ 52 + fracField 52 n)

end Sys2Proof.Machine
end

