-- ==== Sys2Proof/Machine/Random.lean ====
section
/-! DEFINITION. The Mersenne-Twister commands (45_random.md). -/

namespace Sys2Proof.Machine

/-- `mt[i]` of a vector. -/
def mtAt (mt : Vector Word 624) (i : Nat) : Word := mt.getD i 0#32

/-! ### Seeding -/

/-- The vector that `INIT(s)` leaves (R162). -/
@[irreducible] def mtInit (seed : Word) : Vector Word 624 :=
  forUp 623 (fun k mt =>
      mt.setIfInBounds (k + 1)
        (1812433253#32 * (mtAt mt k ^^^ (mtAt mt k >>> 30)) + BitVec.ofNat 32 (k + 1)))
    ((Vector.replicate 624 0#32).setIfInBounds 0 seed)

/-- The vector and the two cursors of `INIT_ARRAY` (R163). -/
structure Mix where
  mt : Vector Word 624
  i  : Nat
  j  : Nat
deriving DecidableEq, Repr

/-- `if i >= 624: mt[0] <- mt[623]; i <- 1` (R163). -/
def Mix.wrap (m : Mix) : Mix :=
  if 624 ≤ m.i then { m with mt := m.mt.setIfInBounds 0 (mtAt m.mt 623), i := 1 } else m

/-- `mt[i-1] ^ (mt[i-1] >> 30)` (R163). -/
def Mix.prev (m : Mix) : Word := mtAt m.mt (m.i - 1) ^^^ (mtAt m.mt (m.i - 1) >>> 30)

/-- One turn of R163's first pass. -/
def mixKeyTurn (key : List Word) (m : Mix) : Mix :=
  let v := (mtAt m.mt m.i ^^^ (m.prev * 1664525#32)) + key.getD m.j 0#32 + BitVec.ofNat 32 m.j
  let m1 : Mix := ({ mt := m.mt.setIfInBounds m.i v, i := m.i + 1, j := m.j + 1 } : Mix).wrap
  if key.length ≤ m1.j then { m1 with j := 0 } else m1

/-- One turn of R163's second pass. -/
def mixPosTurn (m : Mix) : Mix :=
  let v := (mtAt m.mt m.i ^^^ (m.prev * 1566083941#32)) - BitVec.ofNat 32 m.i
  ({ mt := m.mt.setIfInBounds m.i v, i := m.i + 1, j := m.j } : Mix).wrap

/-- The vector that `INIT_ARRAY(key)` leaves (R163). -/
@[irreducible] def mtInitArray (key : List Word) : Vector Word 624 :=
  let m1 := forUp (max 624 key.length) (fun _ m => mixKeyTurn key m) { mt := mtInit 19650218#32, i := 1, j := 0 }
  let m2 := forUp 623 (fun _ m => mixPosTurn m) m1
  m2.mt.setIfInBounds 0 0x80000000#32

/-! ### Drawing -/

/-- One turn of `TWIST` (R164), in place. -/
def twistTurn (k : Nat) (mt : Vector Word 624) : Vector Word 624 :=
  let y := (mtAt mt k &&& 0x80000000#32) ||| (mtAt mt ((k + 1) % 624) &&& 0x7FFFFFFF#32)
  mt.setIfInBounds k
    (mtAt mt ((k + 397) % 624) ^^^ (y >>> 1) ^^^ (if y.getLsbD 0 then 0x9908B0DF#32 else 0#32))

/-- `TWIST` (R164): k = 0 .. 623 in increasing order, in place. -/
@[irreducible] def twist (mt : Vector Word 624) : Vector Word 624 := forUp 624 twistTurn mt

/-- `TEMPER(y)` (R167). -/
def temper (y0 : Word) : Word :=
  let y1 := y0 ^^^ (y0 >>> 11)
  let y2 := y1 ^^^ ((y1 <<< 7) &&& 0x9D2C5680#32)
  let y3 := y2 ^^^ ((y2 <<< 15) &&& 0xEFC60000#32)
  y3 ^^^ (y3 >>> 18)

/-- R168's first line: an unseeded engine seeds itself with 5489. -/
def Generator.seeded (g : Generator) : Generator :=
  if g.mti = 625#32 then { mt := mtInit 5489#32, mti := 624#32 } else g

/-- R168's second line: a cursor at the end twists and starts again. -/
def Generator.ready (g : Generator) : Generator :=
  if 624 ≤ g.mti.toNat then { mt := twist g.mt, mti := 0#32 } else g

/-- `DRAW()` (R168): the drawn word and the engine after it. -/
def draw (g : Generator) : Word × Generator :=
  let r := g.seeded.ready
  (temper (mtAt r.mt r.mti.toNat), { r with mti := r.mti + 1#32 })

/-! ### Derived values -/

/-- The significand of `c = RNE64(1 / 4294967424)` (R170): `c = floatScale / 2^85`, 53 bits. -/
def floatScale : Nat := roundDiv (2 ^ 85) 4294967424

/-- R170 from the draw `r`: `p = RNE64(r · c)`, then `bits32(RNE32(p))`. -/
def floatBits (r : Word) : BitVec 32 := bits32 (roundSig 24 (roundSig 53 (r.toNat * floatScale))) 85

/-- `a · 2^26 + b` (R171): the 53-bit integer of two draws. -/
def doubleInt (d1 d2 : Word) : Nat := (d1 >>> 5).toNat * 67108864 + (d2 >>> 6).toNat

/-- R172's `k` from `v = V / 2^53` and `n`: `floor(RNE64(v · n))`. -/
def rangeOffset (V n : Nat) : Nat := roundSig 53 (V * n) / 2 ^ 53

/-! ### The blob (R173) -/

/-- The 2500 bytes of an engine: 624 words, then the cursor, little-endian. -/
def blobOf (g : Generator) : List Byte :=
  (g.mt.toList.map (fun w => leBytes 4 w.toNat)).flatten ++ leBytes 4 g.mti.toNat

/-- The engine of 625 words: the vector, then the cursor. -/
def ofBlobWords (ws : List Word) : Generator :=
  { mt := Vector.ofFn (fun i : Fin 624 => ws.getD i.val 0#32), mti := ws.getD 624 0#32 }

/-! ### Commands -/

/-- MT_SEED (R165). -/
def mtSeed (s : State) : State := finish { s with gen := { mt := mtInit s.x[0], mti := 624#32 } }

/-- MT_SEED_ARRAY (R166). -/
def mtSeedArray (s : State) : State :=
  let addr := s.x[0].toNat
  let len := s.x[1].toNat
  if len < 1 then raise .badSeedLen s
  else if !({ base := addr, len := 4 * len : Range }).ok then raise .badBuffer s
  else
    match loadBytes s addr (4 * len) with
    | none    => midFault .busError .mtSeedArray s
    | some bs => finish { s with gen := { mt := mtInitArray (leWords bs), mti := 624#32 } }

/-- MT_RAND32 (R169). -/
def mtRand32 (s : State) : State :=
  let d := draw s.gen
  finish (setX 0 d.1 { s with gen := d.2 })

/-- MT_RANDFLOAT (R170). -/
def mtRandFloat (s : State) : State :=
  let d := draw s.gen
  finish (setX 0 (floatBits d.1) { s with gen := d.2 })

/-- Two draws in order: the integer of R171 and the engine after them. -/
def drawDouble (g : Generator) : Nat × Generator :=
  let d1 := draw g
  let d2 := draw d1.2
  (doubleInt d1.1 d2.1, d2.2)

/-- MT_RANDDOUBLE (R171). -/
def mtRandDouble (s : State) : State :=
  let d := drawDouble s.gen
  finish (setPair0 (bits64 d.1 53) { s with gen := d.2 })

/-- MT_RANDRANGE (R172). -/
def mtRandRange (s : State) : State :=
  let lo := s.x[0].toInt
  let hi := s.x[1].toInt
  if hi < lo then raise .badRange s
  else
    let n := (hi - lo + 1).toNat
    let d := drawDouble s.gen
    finish (setX 0 (BitVec.ofInt 32 (lo + (rangeOffset d.1 n : Int))) { s with gen := d.2 })

/-- MT_SAVE (R174). -/
def mtSave (s : State) : State :=
  let buf := s.x[0].toNat
  if s.x[1].toNat < blobBytes then finish (setX 0 2500#32 s)
  else if !({ base := buf, len := blobBytes : Range }).ok then raise .badBuffer s
  else
    match storeBytes s buf (blobOf s.gen) with
    | none    => midFault .busError .mtSave s
    | some s' => finish (setX 0 0#32 s')

/-- MT_RESTORE (R175). -/
def mtRestore (s : State) : State :=
  let buf := s.x[0].toNat
  if !({ base := buf, len := blobBytes : Range }).ok then raise .badBuffer s
  else
    match loadBytes s buf blobBytes with
    | none    => midFault .busError .mtRestore s
    | some bs =>
      let g := ofBlobWords (leWords bs)
      if 625 < g.mti.toNat then midFault .badStateBlob .mtRestore s
      else finish { s with gen := g }

/-- MT_SEED (R165). -/
def execMtSeed (s : State) : Host.Outcome State Fault Refusal := .next (mtSeed s)
/-- MT_SEED_ARRAY (R166). -/
def execMtSeedArray (s : State) : Host.Outcome State Fault Refusal := .next (mtSeedArray s)
/-- MT_RAND32 (R169). -/
def execMtRand32 (s : State) : Host.Outcome State Fault Refusal := .next (mtRand32 s)
/-- MT_RANDFLOAT (R170). -/
def execMtRandFloat (s : State) : Host.Outcome State Fault Refusal := .next (mtRandFloat s)
/-- MT_RANDDOUBLE (R171). -/
def execMtRandDouble (s : State) : Host.Outcome State Fault Refusal := .next (mtRandDouble s)
/-- MT_RANDRANGE (R172). -/
def execMtRandRange (s : State) : Host.Outcome State Fault Refusal := .next (mtRandRange s)
/-- MT_SAVE (R174). -/
def execMtSave (s : State) : Host.Outcome State Fault Refusal := .next (mtSave s)
/-- MT_RESTORE (R175). -/
def execMtRestore (s : State) : Host.Outcome State Fault Refusal := .next (mtRestore s)

end Sys2Proof.Machine
end

