-- ==== Sys2Proof/Machine/Dispatch.lean ====
section
/-! DEFINITION. The meaning of every command, one arm per row of spec/opcode_table.json. -/

namespace Sys2Proof.Machine

def exec (i : Instr) (s : State) : Host.Outcome State Fault Refusal :=
  match i with
  | .bfInit => Sys2Proof.Machine.execBfInit s
  | .bfEncrypt => Sys2Proof.Machine.execBfEncrypt s
  | .bfDecrypt => Sys2Proof.Machine.execBfDecrypt s
  | .bfEncryptString => Sys2Proof.Machine.execBfEncryptString s
  | .bfDecryptString => Sys2Proof.Machine.execBfDecryptString s
  | .mtSeed => Sys2Proof.Machine.execMtSeed s
  | .mtSeedArray => Sys2Proof.Machine.execMtSeedArray s
  | .mtRand32 => Sys2Proof.Machine.execMtRand32 s
  | .mtRandFloat => Sys2Proof.Machine.execMtRandFloat s
  | .mtRandDouble => Sys2Proof.Machine.execMtRandDouble s
  | .mtRandRange => Sys2Proof.Machine.execMtRandRange s
  | .mtSave => Sys2Proof.Machine.execMtSave s
  | .mtRestore => Sys2Proof.Machine.execMtRestore s
  | .b64EncLen => Sys2Proof.Machine.execB64EncLen s
  | .b64Encode => Sys2Proof.Machine.execB64Encode s
  | .b64DecLen => Sys2Proof.Machine.execB64DecLen s
  | .b64Decode => Sys2Proof.Machine.execB64Decode s
  | .bswap1 => Sys2Proof.Machine.execBswap1 s
  | .bswap2 => Sys2Proof.Machine.execBswap2 s
  | .bswap4 => Sys2Proof.Machine.execBswap4 s
  | .bswap8 => Sys2Proof.Machine.execBswap8 s
  | .fixbo1 => Sys2Proof.Machine.execFixbo1 s
  | .fixbo2 => Sys2Proof.Machine.execFixbo2 s
  | .fixbo4 => Sys2Proof.Machine.execFixbo4 s
  | .fixbo8 => Sys2Proof.Machine.execFixbo8 s
  | .fixboArray1 => Sys2Proof.Machine.execFixboArray1 s
  | .fixboArray2 => Sys2Proof.Machine.execFixboArray2 s
  | .fixboArray4 => Sys2Proof.Machine.execFixboArray4 s
  | .fixboArray8 => Sys2Proof.Machine.execFixboArray8 s

end Sys2Proof.Machine
end

