-- ==== Sys2Proof/WellFormed.lean ====
section
/-! DEFINITION. Which command words are well formed (30_encoding.md R71, R76). An `Instr` has no operands, so
every `Instr` is well formed; what can be ill formed is the fields of a command word. -/

namespace Sys2Proof

/-- The byte-order opcodes, the ones whose SZ field is an element size (R71). -/
def byteOrderOp (op : BitVec 8) : Bool :=
  op == 0x30 || op == 0x31 || op == 0x32

/-- The opcodes that R73 assigns. -/
def assignedOp (op : BitVec 8) : Bool :=
  decide (0x01 ≤ op.toNat ∧ op.toNat ≤ 0x05) || decide (0x10 ≤ op.toNat ∧ op.toNat ≤ 0x17)
    || decide (0x20 ≤ op.toNat ∧ op.toNat ≤ 0x23) || byteOrderOp op

/-- RSV must be 0 (R71). -/
def CommandFields.rsvOk (f : CommandFields) : Bool := f.rsv == 0

/-- OP must be assigned (R73). -/
def CommandFields.opOk (f : CommandFields) : Bool := assignedOp f.op

/-- SZ is 1, 2, 4 or 8 for a byte-order opcode and 0 for every other (R71, R72). -/
def CommandFields.szOk (f : CommandFields) : Bool :=
  if byteOrderOp f.op then f.sz == 1 || f.sz == 2 || f.sz == 4 || f.sz == 8 else f.sz == 0

/-- A legal command word's fields (R76: every other word is illegal). -/
def CommandFields.wellFormed (f : CommandFields) : Bool := f.rsvOk && f.opOk && f.szOk

/-- A command has no operands that could be ill formed (R75). -/
def Instr.wellFormed (_ : Instr) : Bool := true

end Sys2Proof
end

