-- ==== Sys2Proof/Decode.lean ====
section
/-! DEFINITION. Decoding a command word, total on all 2^32 words and rejecting by name (30_encoding.md R70 to R74,
R76), and after it the encoder, written from the words that R73 and R74 give. -/

namespace Sys2Proof

/-- Why a word is ILLEGAL (R76). Each of them makes the core raise `ILLEGAL_CMD` (R72). -/
inductive DecodeError where
  /-- `RSV != 0`. -/
  | reservedBits
  /-- OP is not in the map of R73. -/
  | unassignedOpcode
  /-- SZ is not 1, 2, 4 or 8 on a byte-order opcode. -/
  | badElementSize
  /-- `SZ != 0` on an opcode that is not a byte-order one. -/
  | sizeOnPlainOpcode
deriving DecidableEq, Repr

/-- R71: `OP = w[7:0]`, `SZ = w[11:8]`, `RSV = w[31:12]`. -/
def fieldsOf (w : Word) : CommandFields :=
  { op := w.extractLsb' 0 8, sz := w.extractLsb' 8 4, rsv := w.extractLsb' 12 20 }

/-- The opcodes of R73 that take no element size. -/
def plainOp (op : BitVec 8) : Option Instr :=
  match op.toNat with
  | 0x01 => some .bfInit
  | 0x02 => some .bfEncrypt
  | 0x03 => some .bfDecrypt
  | 0x04 => some .bfEncryptString
  | 0x05 => some .bfDecryptString
  | 0x10 => some .mtSeed
  | 0x11 => some .mtSeedArray
  | 0x12 => some .mtRand32
  | 0x13 => some .mtRandFloat
  | 0x14 => some .mtRandDouble
  | 0x15 => some .mtRandRange
  | 0x16 => some .mtSave
  | 0x17 => some .mtRestore
  | 0x20 => some .b64EncLen
  | 0x21 => some .b64Encode
  | 0x22 => some .b64DecLen
  | 0x23 => some .b64Decode
  | _ => none

/-- The byte-order commands: opcode and element size in bytes (R73, R74). -/
def sizedOp (op : BitVec 8) (sz : BitVec 4) : Option Instr :=
  match op.toNat, sz.toNat with
  | 0x30, 1 => some .bswap1
  | 0x30, 2 => some .bswap2
  | 0x30, 4 => some .bswap4
  | 0x30, 8 => some .bswap8
  | 0x31, 1 => some .fixbo1
  | 0x31, 2 => some .fixbo2
  | 0x31, 4 => some .fixbo4
  | 0x31, 8 => some .fixbo8
  | 0x32, 1 => some .fixboArray1
  | 0x32, 2 => some .fixboArray2
  | 0x32, 4 => some .fixboArray4
  | 0x32, 8 => some .fixboArray8
  | _, _ => none

/-- R72, in its order: the reserved bits, then the size of a byte-order opcode, then the opcode and `SZ == 0`. -/
def decode (w : Word) : Except DecodeError Instr :=
  let f := fieldsOf w
  if f.rsv ≠ 0 then .error .reservedBits
  else if byteOrderOp f.op then
    match sizedOp f.op f.sz with
    | some i => .ok i
    | none   => .error .badElementSize
  else
    match plainOp f.op with
    | none   => .error .unassignedOpcode
    | some i => if f.sz = 0 then .ok i else .error .sizeOnPlainOpcode

/-- The command word of a command: `OP | SZ << 8` (R73), the byte-order words as R74 lists them. -/
def encode : Instr → Word
  | .bfInit          => 0x00000001#32
  | .bfEncrypt       => 0x00000002#32
  | .bfDecrypt       => 0x00000003#32
  | .bfEncryptString => 0x00000004#32
  | .bfDecryptString => 0x00000005#32
  | .mtSeed          => 0x00000010#32
  | .mtSeedArray     => 0x00000011#32
  | .mtRand32        => 0x00000012#32
  | .mtRandFloat     => 0x00000013#32
  | .mtRandDouble    => 0x00000014#32
  | .mtRandRange     => 0x00000015#32
  | .mtSave          => 0x00000016#32
  | .mtRestore       => 0x00000017#32
  | .b64EncLen       => 0x00000020#32
  | .b64Encode       => 0x00000021#32
  | .b64DecLen       => 0x00000022#32
  | .b64Decode       => 0x00000023#32
  | .bswap1          => 0x00000130#32
  | .bswap2          => 0x00000230#32
  | .bswap4          => 0x00000430#32
  | .bswap8          => 0x00000830#32
  | .fixbo1          => 0x00000131#32
  | .fixbo2          => 0x00000231#32
  | .fixbo4          => 0x00000431#32
  | .fixbo8          => 0x00000831#32
  | .fixboArray1     => 0x00000132#32
  | .fixboArray2     => 0x00000232#32
  | .fixboArray4     => 0x00000432#32
  | .fixboArray8     => 0x00000832#32

/-- The host's view of the decoder: the command of the table word `w`, of which the low `nbits` bits count. A
command is one 32-bit word (R70), so there is no longer instruction and no byte order to apply. -/
def decodeTableWord (nbits w : Nat) : Option Instr :=
  match decode (BitVec.ofNat 32 (w % 2 ^ nbits)) with
  | .ok i    => some i
  | .error _ => none

end Sys2Proof
end

