-- ==== Sys2Proof/Machine/Flags.lean ====
section
/-! DEFINITION. STATUS: every bit of it, computed from where it is held (10_state.md R24, R26, R29, R33). -/

namespace Sys2Proof.Machine

/-- A Bool as bit `k` of a word. -/
def bitAt (k : Nat) (b : Bool) : Word := if b then 1#32 <<< k else 0#32

/-- STATUS.BUSY: a command is in progress (R24, R26, R27). -/
def State.busy (s : State) : Bool := s.running.isSome

/-- STATUS.MT_SEEDED: `mti != 625` (R33). -/
def State.mtSeeded (s : State) : Bool := s.gen.mti != 625#32

/-- `STATUS = (ERRCODE << 8) | (MT_SEEDED << 3) | (BF_KEYED << 2) | (ERR << 1) | BUSY` (R24). -/
def State.status (s : State) : Word :=
  (s.errcode.setWidth 32 <<< 8) ||| bitAt 3 s.mtSeeded ||| bitAt 2 s.keyed ||| bitAt 1 s.err ||| bitAt 0 s.busy

end Sys2Proof.Machine
end

