-- ==== Sys2Proof/Machine/HostBus.lean ====
section
/-! DEFINITION. What the host and the other bus agents do: accesses to the register window (10_state.md R22, R23,
R25; 60_exceptions.md R192, R198), accesses to buffer memory (20_memory.md R63, R64), and reset (R215, R216). -/

namespace Sys2Proof.Machine

/-- What an offset of the window selects (R22). -/
inductive WindowReg where
  | cmd
  | status
  | reserved
  | x (i : Fin 8)
deriving DecidableEq, Repr

/-- The table of R22, for an offset that is a multiple of 4 below 0x40. -/
def windowReg (off : Nat) : WindowReg :=
  match off with
  | 0x00 => .cmd
  | 0x04 => .status
  | 0x10 => .x 0
  | 0x14 => .x 1
  | 0x18 => .x 2
  | 0x1C => .x 3
  | 0x20 => .x 4
  | 0x24 => .x 5
  | 0x28 => .x 6
  | 0x2C => .x 7
  | _    => .reserved

/-- The offset of a bus address from CORE_BASE (R22). DESIGN CHOICE: bus addresses are taken modulo 2^32, so a window
at a CORE_BASE above 0xFFFFFFC0 goes on at address 0; the spec does not say (log entry 22). -/
def windowOffset (c : Config) (addr : Word) : Nat := (addr - c.coreBase).toNat

/-- An access of `bytes` bytes hits the window when one of its bytes lies in the window's 64 (R22): its first does,
or it starts below CORE_BASE and reaches it (log entry 19), across address 0xFFFFFFFF too where the window follows it
(log entry 22). -/
def inWindow (c : Config) (addr : Word) (bytes : Nat) : Bool :=
  decide (windowOffset c addr < 64 ∨ 4294967296 < windowOffset c addr + bytes)

/-- "a 32-bit access at an offset that is a multiple of 4" (R22). -/
def goodAccess (off bytes : Nat) : Bool := decide (bytes = 4 ∧ off % 4 = 0)

/-- The command in progress: what CMD decodes to (R26, R72). -/
def commandOf (s : State) : Except DecodeError Instr := decode s.cmd

/-- The effects of ending the running command early (R192, R196, R216; log entry 21): its write ranges and its
engine's state hold any value, and X is unchanged, but for the result registers of a raced command (R64; log entry 11);
nothing where no command runs or its word is illegal. -/
def abort (s : State) : State :=
  match s.running with
  | none   => s
  | some r =>
    match commandOf s with
    | .error _ => s
    | .ok i    =>
      let t := spoil i (openRanges i s) s
      if r.raced then freeResults s.ticket (resultRegs i) t else t

/-- A host-access fault (R192): it aborts a running command and enters as R195 says. -/
def hostFault (c : FaultCode) (s : State) : State := raise c (abort s)

/-- A read that "returns any value" (R25, R64, R192). -/
def readAny (s : State) : State :=
  { s with readData := Config.freeWord s.ticket .readData, ticket := s.ticket + 1 }

/-- The CMD write that starts a command (R23); how long BUSY stays set is not specified (R225). -/
def startCommand (w : Word) (s : State) : State :=
  { s with cmd := w, running := some { left := Config.latency s.ticket, raced := false }, ticket := s.ticket + 1 }

/-- A host write that hits the window (R22, R23, R25, R192). DESIGN CHOICE: the form of the access is tested first, so a
write of CMD or an X register of a wrong width or alignment while BUSY is `HOST_ACCESS` and not `BUSY_VIOLATION`; the
spec gives no order (log entry 23). -/
def windowWrite (off bytes : Nat) (v : Word) (s : State) : State :=
  if goodAccess off bytes then
    match windowReg off with
    | .status | .reserved => hostFault .hostAccess s
    | .cmd => if s.busy then hostFault .busyViolation s else if s.err then s else startCommand v s
    | .x i => if s.busy then hostFault .busyViolation s else setX i v s
  else hostFault .hostAccess s

/-- A host read that hits the window (R22, R23, R24, R25, R192): CMD and STATUS are exact, a reserved offset reads
as zero, an X register while BUSY and an access of the wrong form return any value. -/
def windowRead (off bytes : Nat) (s : State) : State :=
  if goodAccess off bytes then
    match windowReg off with
    | .cmd      => { s with readData := s.cmd }
    | .status   => { s with readData := s.status }
    | .reserved => { s with readData := 0#32 }
    | .x i      => if s.busy then readAny s else { s with readData := s.x[i] }
  else readAny (hostFault .hostAccess s)

/-- Is the byte in one of the running command's ranges that `f` names (R51)? -/
def touches (f : Instr → State → List Range) (s : State) (a : Nat) : Bool :=
  match commandOf s with
  | .error _ => false
  | .ok i    => (f i s).any (fun r => r.has a)

/-- The byte is one the running command writes (R64). -/
def inWriteRange (s : State) (a : Nat) : Bool := s.busy && touches openRanges s a

/-- The byte is one the running command reads (R64). -/
def inReadRange (s : State) (a : Nat) : Bool := s.busy && touches readRanges s a

/-- A race (R64): the running command is marked; `input` when an agent has written what it reads. -/
def markRaced (input : Bool) (s : State) : State :=
  { s with running := s.running.map (fun r => { r with raced := true, inputRaced := r.inputRaced || input }) }

/-- A bus agent writes a byte of buffer memory; a byte of the running command's ranges is a race (R64). -/
def agentWrite (a : Word) (b : Byte) (s : State) : State :=
  let t := { s with mem := writeByte s.mem a.toNat b }
  if inReadRange s a.toNat then markRaced true t
  else if inWriteRange s a.toNat then markRaced false t
  else t

/-- A bus agent reads a byte of buffer memory; a byte of the running command's write ranges is a race and reads as
any value (R64). -/
def agentRead (a : Word) (s : State) : State :=
  if inWriteRange s a.toNat then readAny (markRaced false s)
  else { s with readData := (readByte s.mem a.toNat).setWidth 32 }

/-- Reset (R215): R36's values; a running command is aborted, its write ranges any value (R216). The open
parameters, memory otherwise, and what is outside the core stay. -/
def resetCore (s : State) : State :=
  let t := abort s
  { t with
    cmd := 0#32, err := false, errcode := 0#8, x := Vector.replicate 8 0#32, running := none,
    sched := Schedule.free t.ticket, keyed := false,
    gen := { mt := Generator.freeVector t.ticket, mti := 625#32 }, ticket := t.ticket + 1 }

/-- One event of the outside world, done. -/
def hostDo (e : HostEvent) (s : State) : State :=
  match e with
  | .busRead addr bytes    => if inWindow s.cfg addr bytes then windowRead (windowOffset s.cfg addr) bytes s else s
  | .busWrite addr bytes v => if inWindow s.cfg addr bytes then windowWrite (windowOffset s.cfg addr) bytes v s else s
  | .memRead a             => agentRead a s
  | .memWrite a b          => agentWrite a b s
  | .wait                  => { s with readData := s.status }
  | .reset                 => resetCore s

/-- The outside world's next move, if it has one. A WAIT stays the next move while BUSY (R78). -/
def hostMove (s : State) : State :=
  match s.host with
  | []     => s
  | .wait :: rest => if s.busy then hostDo .wait s else hostDo .wait { s with host := rest }
  | e :: rest => hostDo e { s with host := rest }

/-- One host move nearer the running command's end (R225). -/
def tick (s : State) : State :=
  { s with running := s.running.map (fun r => { r with left := r.left - 1 }) }

end Sys2Proof.Machine
end

