-- ==== Sys2Proof/Machine/Command.lean ====
section
/-! DEFINITION. The end of the running command: decode, `exec`, and what a race leaves (20_memory.md R64). -/

namespace Sys2Proof.Machine

/-- The tables that a command loads from memory, when that memory was raced: free values for the words it loads
(log entry 11). -/
def freeLoaded (t : Nat) (i : Instr) (s : State) : State :=
  match i with
  | .bfInit => { s with sched := Schedule.free t }
  | .mtSeedArray => { s with gen := { s.gen with mt := Generator.freeVector t } }
  | .mtRestore => { s with gen := { mt := Generator.freeVector t, mti := freeCursor t } }
  | .bfEncrypt | .bfDecrypt | .bfEncryptString | .bfDecryptString | .mtSeed | .mtRand32 | .mtRandFloat
  | .mtRandDouble | .mtRandRange | .mtSave | .b64EncLen | .b64Encode | .b64DecLen | .b64Decode
  | .bswap1 | .bswap2 | .bswap4 | .bswap8 | .fixbo1 | .fixbo2 | .fixbo4 | .fixbo8
  | .fixboArray1 | .fixboArray2 | .fixboArray4 | .fixboArray8 => s

/-- What a raced command leaves (R64), whether it ends normally or by a fault of its own: its ranges `rs` and its
result registers any value, and after a normal end the tables it loads. -/
def afterRace (i : Instr) (rs : List Range) (t : State) : State :=
  let u := freeResults t.ticket (resultRegs i) { t with mem := freeRanges t.ticket t.mem rs }
  { (if t.err then u else freeLoaded t.ticket i u) with ticket := t.ticket + 1 }

/-- The end of the running command `r`: an illegal word raises `ILLEGAL_CMD` and has no other effect (R72), a legal
one has its meaning; a raced one leaves any value where R64 says. -/
def endCommand (r : Running) (s : State) : Host.Outcome State Fault Refusal :=
  match commandOf s with
  | .error _ => .next (raise .illegalCmd s)
  | .ok i    =>
    if r.raced then
      match exec i s with
      | .next t    => .next (afterRace i (openRanges i s) t)
      | .fault f   => .fault f
      | .refused f => .refused f
    else exec i s

/-- One step of the machine: the core ends its command when its time has come, else the outside world moves. -/
def advance (s : State) : Host.Outcome State Fault Refusal :=
  match s.running with
  | none   => .next (hostMove s)
  | some r => if r.left = 0 then endCommand r s else .next (hostMove (tick s))

/-- CMD holds the table word and its command is in progress with nothing before its end. -/
def withCommand (w : Word) (s : State) : State :=
  { s with cmd := w, running := some { left := 0, raced := false } }

end Sys2Proof.Machine
end

