-- ==== Sys2Proof/Machine/Step.lean ====
section
/-! DEFINITION. The step, and the placing of a command where the next step runs it. -/

namespace Sys2Proof.Machine

/-- One step of DG-CORE and its host (R20). -/
def step : State → Host.Outcome State Fault Refusal := fun s => advance s

/-- `s` with the command word that is the low `nbits` bits of `w` in CMD and its command in progress, so that the
next step is that command's end. It stands for the host's CMD write (R23; log entry 4). -/
def State.withFetchWord (s : State) (nbits w : Nat) : State := withCommand (BitVec.ofNat 32 (w % 2 ^ nbits)) s

end Sys2Proof.Machine
end

