-- ==== Sys2Proof/Laws/Memory.lean ====
section
/-! SUPPORT. The laws of memory: a read after a write, and the canonical form that every memory operation keeps. -/

namespace Sys2Proof.Machine

@[simp] theorem readByte_nil (a : Nat) : readByte [] a = unlisted := rfl

theorem readByte_cons (c : Nat) (x : Byte) (m : Memory) (a : Nat) :
    readByte ((c, x) :: m) a = if a = c then x else readByte m a := rfl

/-- A write leaves every other address alone, in every memory. -/
theorem readByte_writeByte_other (m : Memory) (a c : Nat) (b : Byte) (h : c ≠ a) :
    readByte (writeByte m a b) c = readByte m c := by
  induction m with
  | nil => by_cases hb : b = unlisted <;> simp [writeByte, hb, readByte_cons, h]
  | cons p m ih =>
    obtain ⟨k, x⟩ := p
    simp only [writeByte]
    split_ifs <;> simp_all [readByte_cons]

/-- The parts of the canonical form of a non-empty memory. -/
theorem wf_cons (c : Nat) (x : Byte) (m : Memory) :
    Memory.wf ((c, x) :: m) = true ↔
      c < spaceSize ∧ x ≠ unlisted ∧ (∀ p ∈ m, c < p.1) ∧ Memory.wf m = true := by
  simp [Memory.wf, Bool.and_eq_true, and_assoc]

/-- An address below every listed one is not listed. -/
theorem readByte_below (m : Memory) (a : Nat) (h : ∀ p ∈ m, a < p.1) : readByte m a = unlisted := by
  induction m with
  | nil => rfl
  | cons p m ih =>
    obtain ⟨k, x⟩ := p
    have hk : a < k := h (k, x) (by simp)
    rw [readByte_cons, if_neg (by omega)]
    exact ih (fun q hq => h q (by simp [hq]))

/-- A read after a write to the same address gives the byte written. -/
theorem readByte_writeByte_same (m : Memory) (a : Nat) (b : Byte) (hm : Memory.wf m = true) :
    readByte (writeByte m a b) a = b := by
  induction m with
  | nil => by_cases hb : b = unlisted <;> simp [writeByte, hb, readByte_cons]
  | cons p m ih =>
    obtain ⟨k, x⟩ := p
    obtain ⟨-, -, hlt, hw⟩ := (wf_cons k x m).1 hm
    have below : a ≤ k → readByte m a = unlisted := fun hak =>
      readByte_below m a (fun q hq => by have := hlt q hq; omega)
    simp only [writeByte]
    split_ifs with h1 h2 h3 h4
    · rw [readByte_cons, if_neg (by omega), h2]; exact below (by omega)
    · simp [readByte_cons]
    · rw [h4]; exact below (by omega)
    · simp [readByte_cons]
    · rw [readByte_cons, if_neg h3]; exact ih hw

/-- What a write can add to the addresses listed. -/
theorem mem_writeByte (m : Memory) (a : Nat) (b : Byte) (p : Host.Cell) (h : p ∈ writeByte m a b) :
    p = (a, b) ∨ p ∈ m := by
  induction m with
  | nil => by_cases hb : b = unlisted <;> simp_all [writeByte]
  | cons q m ih =>
    obtain ⟨k, x⟩ := q
    simp only [writeByte] at h
    split_ifs at h with h1 h2 h3 h4
    · exact .inr h
    · exact List.mem_cons.1 h
    · exact .inr (List.mem_cons_of_mem _ h)
    · exact (List.mem_cons.1 h).imp_right (List.mem_cons_of_mem _)
    · rcases List.mem_cons.1 h with h | h
      · exact .inr (h ▸ List.mem_cons_self)
      · exact (ih h).imp_right (List.mem_cons_of_mem _)

/-- A write inside the address space keeps the canonical form. -/
theorem wf_writeByte (m : Memory) (a : Nat) (b : Byte) (ha : a < spaceSize) (hm : Memory.wf m = true) :
    Memory.wf (writeByte m a b) = true := by
  induction m with
  | nil => by_cases hb : b = unlisted <;> simp [writeByte, hb, Memory.wf, ha]
  | cons p m ih =>
    obtain ⟨k, x⟩ := p
    obtain ⟨hk, hx, hlt, hw⟩ := (wf_cons k x m).1 hm
    simp only [writeByte]
    split_ifs with h1 h2 h3 h4
    · exact hm
    · refine (wf_cons a b _).2 ⟨ha, h2, ?_, hm⟩
      intro q hq
      rcases List.mem_cons.1 hq with rfl | hq
      · exact h1
      · have := hlt q hq; omega
    · exact hw
    · subst h3; exact (wf_cons _ b m).2 ⟨ha, h4, hlt, hw⟩
    · refine (wf_cons k x _).2 ⟨hk, hx, ?_, ih hw⟩
      intro q hq
      rcases mem_writeByte m a b q hq with rfl | hq
      · simp only; omega
      · exact hlt q hq

@[simp] theorem writeBytes_nil (m : Memory) (a : Nat) : writeBytes m a [] = m := rfl
@[simp] theorem writeBytes_cons (m : Memory) (a : Nat) (b : Byte) (bs : List Byte) :
    writeBytes m a (b :: bs) = writeBytes (writeByte m a b) (a + 1) bs := rfl

/-- A write of several bytes inside the address space keeps the canonical form. -/
theorem wf_writeBytes (m : Memory) (a : Nat) (bs : List Byte) (ha : bs = [] ∨ a + bs.length ≤ spaceSize)
    (hm : Memory.wf m = true) : Memory.wf (writeBytes m a bs) = true := by
  induction bs generalizing m a with
  | nil => exact hm
  | cons b bs ih =>
    have h : a + (bs.length + 1) ≤ spaceSize := by simpa using ha
    exact ih _ _ (.inr (by omega)) (wf_writeByte m a b (by omega) hm)

/-- A write of several bytes leaves every address outside them alone. -/
theorem readByte_writeBytes_other (m : Memory) (a : Nat) (bs : List Byte) (c : Nat)
    (h : c < a ∨ a + bs.length ≤ c) : readByte (writeBytes m a bs) c = readByte m c := by
  induction bs generalizing m a with
  | nil => rfl
  | cons b bs ih =>
    simp only [List.length_cons] at h
    rw [writeBytes_cons, ih _ _ (by omega), readByte_writeByte_other _ _ _ _ (by omega)]

/-- A read after a write of several bytes gives the byte written at that place. -/
theorem readByte_writeBytes_same (m : Memory) (a : Nat) (bs : List Byte) (k : Nat) (hk : k < bs.length)
    (ha : a + bs.length ≤ spaceSize) (hm : Memory.wf m = true) :
    readByte (writeBytes m a bs) (a + k) = bs[k] := by
  induction bs generalizing m a k with
  | nil => simp at hk
  | cons b bs ih =>
    simp only [List.length_cons] at hk ha
    have hw := wf_writeByte m a b (by omega) hm
    cases k with
    | zero =>
      simp only [Nat.add_zero]
      rw [writeBytes_cons, readByte_writeBytes_other _ _ _ _ (by omega),
        readByte_writeByte_same _ _ _ hm, List.getElem_cons_zero]
    | succ k =>
      have := ih (writeByte m a b) (a + 1) k (by omega) (by omega) hw
      rw [writeBytes_cons, show a + (k + 1) = a + 1 + k by omega, this]
      rfl

@[simp] theorem length_readBytes (m : Memory) (a n : Nat) : (readBytes m a n).length = n := by
  simp [readBytes]

/-- The bytes of a range, one by one. -/
theorem getElem_readBytes (m : Memory) (a n k : Nat) (h : k < (readBytes m a n).length) :
    (readBytes m a n)[k] = readByte m (a + k) := by
  simp [readBytes]

/-- Freeing a range keeps the canonical form, whatever the range. -/
theorem wf_freeRange (t : Nat) (m : Memory) (r : Range) (hm : Memory.wf m = true) :
    Memory.wf (freeRange t m r) = true := by
  refine wf_writeBytes m r.base _ ?_ hm
  by_cases h : min r.len (spaceSize - r.base) = 0
  · left; simp [h]
  · right; simp only [List.length_map, List.length_range]; omega

/-- Freeing ranges keeps the canonical form. -/
theorem wf_freeRanges (t : Nat) (m : Memory) (rs : List Range) (hm : Memory.wf m = true) :
    Memory.wf (freeRanges t m rs) = true := by
  induction rs generalizing m with
  | nil => exact hm
  | cons r rs ih => exact ih _ (wf_freeRange t m r hm)

/-- Freeing a range leaves every address outside it alone. -/
theorem readByte_freeRange_other (t : Nat) (m : Memory) (r : Range) (a : Nat) (h : r.has a = false) :
    readByte (freeRange t m r) a = readByte m a := by
  refine readByte_writeBytes_other m r.base _ a ?_
  simp only [Range.has, decide_eq_false_iff_not] at h
  simp only [List.length_map, List.length_range]
  omega

/-- Freeing ranges leaves every address outside all of them alone. -/
theorem readByte_freeRanges_other (t : Nat) (m : Memory) (rs : List Range) (a : Nat)
    (h : ∀ r ∈ rs, r.has a = false) : readByte (freeRanges t m rs) a = readByte m a := by
  induction rs generalizing m with
  | nil => rfl
  | cons r rs ih =>
    have hr := readByte_freeRange_other t m r a (h r (by simp))
    exact (ih _ (fun q hq => h q (by simp [hq]))).trans hr

end Sys2Proof.Machine
end

