-- ==== Sys2Proof/Laws/State.lean ====
section
/-! SUPPORT. What each update of the state leaves in each field. -/

namespace Sys2Proof.Machine

@[simp] theorem setX_cfg (i : Fin 8) (v : Word) (s : State) : (setX i v s).cfg = s.cfg := rfl
@[simp] theorem setX_cmd (i : Fin 8) (v : Word) (s : State) : (setX i v s).cmd = s.cmd := rfl
@[simp] theorem setX_err (i : Fin 8) (v : Word) (s : State) : (setX i v s).err = s.err := rfl
@[simp] theorem setX_errcode (i : Fin 8) (v : Word) (s : State) : (setX i v s).errcode = s.errcode := rfl
@[simp] theorem setX_x (i : Fin 8) (v : Word) (s : State) : (setX i v s).x = s.x.set i v := rfl
@[simp] theorem setX_running (i : Fin 8) (v : Word) (s : State) : (setX i v s).running = s.running := rfl
@[simp] theorem setX_sched (i : Fin 8) (v : Word) (s : State) : (setX i v s).sched = s.sched := rfl
@[simp] theorem setX_keyed (i : Fin 8) (v : Word) (s : State) : (setX i v s).keyed = s.keyed := rfl
@[simp] theorem setX_gen (i : Fin 8) (v : Word) (s : State) : (setX i v s).gen = s.gen := rfl
@[simp] theorem setX_mem (i : Fin 8) (v : Word) (s : State) : (setX i v s).mem = s.mem := rfl
@[simp] theorem setX_host (i : Fin 8) (v : Word) (s : State) : (setX i v s).host = s.host := rfl
@[simp] theorem setX_readData (i : Fin 8) (v : Word) (s : State) : (setX i v s).readData = s.readData := rfl
@[simp] theorem setX_ticket (i : Fin 8) (v : Word) (s : State) : (setX i v s).ticket = s.ticket := rfl

@[simp] theorem setPair0_cfg (v : BitVec 64) (s : State) : (setPair0 v s).cfg = s.cfg := rfl
@[simp] theorem setPair0_cmd (v : BitVec 64) (s : State) : (setPair0 v s).cmd = s.cmd := rfl
@[simp] theorem setPair0_err (v : BitVec 64) (s : State) : (setPair0 v s).err = s.err := rfl
@[simp] theorem setPair0_errcode (v : BitVec 64) (s : State) : (setPair0 v s).errcode = s.errcode := rfl
@[simp] theorem setPair0_x (v : BitVec 64) (s : State) : (setPair0 v s).x = (s.x.set 0 (v.extractLsb' 0 32)).set 1 (v.extractLsb' 32 32) := rfl
@[simp] theorem setPair0_running (v : BitVec 64) (s : State) : (setPair0 v s).running = s.running := rfl
@[simp] theorem setPair0_sched (v : BitVec 64) (s : State) : (setPair0 v s).sched = s.sched := rfl
@[simp] theorem setPair0_keyed (v : BitVec 64) (s : State) : (setPair0 v s).keyed = s.keyed := rfl
@[simp] theorem setPair0_gen (v : BitVec 64) (s : State) : (setPair0 v s).gen = s.gen := rfl
@[simp] theorem setPair0_mem (v : BitVec 64) (s : State) : (setPair0 v s).mem = s.mem := rfl
@[simp] theorem setPair0_host (v : BitVec 64) (s : State) : (setPair0 v s).host = s.host := rfl
@[simp] theorem setPair0_readData (v : BitVec 64) (s : State) : (setPair0 v s).readData = s.readData := rfl
@[simp] theorem setPair0_ticket (v : BitVec 64) (s : State) : (setPair0 v s).ticket = s.ticket := rfl

@[simp] theorem finish_cfg (s : State) : (finish s).cfg = s.cfg := rfl
@[simp] theorem finish_cmd (s : State) : (finish s).cmd = s.cmd := rfl
@[simp] theorem finish_err (s : State) : (finish s).err = s.err := rfl
@[simp] theorem finish_errcode (s : State) : (finish s).errcode = s.errcode := rfl
@[simp] theorem finish_x (s : State) : (finish s).x = s.x := rfl
@[simp] theorem finish_running (s : State) : (finish s).running = none := rfl
@[simp] theorem finish_sched (s : State) : (finish s).sched = s.sched := rfl
@[simp] theorem finish_keyed (s : State) : (finish s).keyed = s.keyed := rfl
@[simp] theorem finish_gen (s : State) : (finish s).gen = s.gen := rfl
@[simp] theorem finish_mem (s : State) : (finish s).mem = s.mem := rfl
@[simp] theorem finish_host (s : State) : (finish s).host = s.host := rfl
@[simp] theorem finish_readData (s : State) : (finish s).readData = s.readData := rfl
@[simp] theorem finish_ticket (s : State) : (finish s).ticket = s.ticket := rfl

@[simp] theorem raise_cfg (c : FaultCode) (s : State) : (raise c s).cfg = s.cfg := rfl
@[simp] theorem raise_cmd (c : FaultCode) (s : State) : (raise c s).cmd = s.cmd := rfl
@[simp] theorem raise_err (c : FaultCode) (s : State) : (raise c s).err = true := rfl
@[simp] theorem raise_errcode (c : FaultCode) (s : State) : (raise c s).errcode = if s.err then s.errcode else c.code := rfl
@[simp] theorem raise_x (c : FaultCode) (s : State) : (raise c s).x = s.x := rfl
@[simp] theorem raise_running (c : FaultCode) (s : State) : (raise c s).running = none := rfl
@[simp] theorem raise_sched (c : FaultCode) (s : State) : (raise c s).sched = s.sched := rfl
@[simp] theorem raise_keyed (c : FaultCode) (s : State) : (raise c s).keyed = s.keyed := rfl
@[simp] theorem raise_gen (c : FaultCode) (s : State) : (raise c s).gen = s.gen := rfl
@[simp] theorem raise_mem (c : FaultCode) (s : State) : (raise c s).mem = s.mem := rfl
@[simp] theorem raise_host (c : FaultCode) (s : State) : (raise c s).host = s.host := rfl
@[simp] theorem raise_readData (c : FaultCode) (s : State) : (raise c s).readData = s.readData := rfl
@[simp] theorem raise_ticket (c : FaultCode) (s : State) : (raise c s).ticket = s.ticket := rfl

@[simp] theorem readAny_cfg (s : State) : (readAny s).cfg = s.cfg := rfl
@[simp] theorem readAny_cmd (s : State) : (readAny s).cmd = s.cmd := rfl
@[simp] theorem readAny_err (s : State) : (readAny s).err = s.err := rfl
@[simp] theorem readAny_errcode (s : State) : (readAny s).errcode = s.errcode := rfl
@[simp] theorem readAny_x (s : State) : (readAny s).x = s.x := rfl
@[simp] theorem readAny_running (s : State) : (readAny s).running = s.running := rfl
@[simp] theorem readAny_sched (s : State) : (readAny s).sched = s.sched := rfl
@[simp] theorem readAny_keyed (s : State) : (readAny s).keyed = s.keyed := rfl
@[simp] theorem readAny_gen (s : State) : (readAny s).gen = s.gen := rfl
@[simp] theorem readAny_mem (s : State) : (readAny s).mem = s.mem := rfl
@[simp] theorem readAny_host (s : State) : (readAny s).host = s.host := rfl
@[simp] theorem readAny_readData (s : State) : (readAny s).readData = Config.freeWord s.ticket .readData := rfl
@[simp] theorem readAny_ticket (s : State) : (readAny s).ticket = s.ticket + 1 := rfl

@[simp] theorem startCommand_cfg (w : Word) (s : State) : (startCommand w s).cfg = s.cfg := rfl
@[simp] theorem startCommand_cmd (w : Word) (s : State) : (startCommand w s).cmd = w := rfl
@[simp] theorem startCommand_err (w : Word) (s : State) : (startCommand w s).err = s.err := rfl
@[simp] theorem startCommand_errcode (w : Word) (s : State) : (startCommand w s).errcode = s.errcode := rfl
@[simp] theorem startCommand_x (w : Word) (s : State) : (startCommand w s).x = s.x := rfl
@[simp] theorem startCommand_running (w : Word) (s : State) : (startCommand w s).running = some { left := Config.latency s.ticket, raced := false } := rfl
@[simp] theorem startCommand_sched (w : Word) (s : State) : (startCommand w s).sched = s.sched := rfl
@[simp] theorem startCommand_keyed (w : Word) (s : State) : (startCommand w s).keyed = s.keyed := rfl
@[simp] theorem startCommand_gen (w : Word) (s : State) : (startCommand w s).gen = s.gen := rfl
@[simp] theorem startCommand_mem (w : Word) (s : State) : (startCommand w s).mem = s.mem := rfl
@[simp] theorem startCommand_host (w : Word) (s : State) : (startCommand w s).host = s.host := rfl
@[simp] theorem startCommand_readData (w : Word) (s : State) : (startCommand w s).readData = s.readData := rfl
@[simp] theorem startCommand_ticket (w : Word) (s : State) : (startCommand w s).ticket = s.ticket + 1 := rfl

@[simp] theorem markRaced_cfg (input : Bool) (s : State) : (markRaced input s).cfg = s.cfg := rfl
@[simp] theorem markRaced_cmd (input : Bool) (s : State) : (markRaced input s).cmd = s.cmd := rfl
@[simp] theorem markRaced_err (input : Bool) (s : State) : (markRaced input s).err = s.err := rfl
@[simp] theorem markRaced_errcode (input : Bool) (s : State) : (markRaced input s).errcode = s.errcode := rfl
@[simp] theorem markRaced_x (input : Bool) (s : State) : (markRaced input s).x = s.x := rfl
@[simp] theorem markRaced_running (input : Bool) (s : State) : (markRaced input s).running = s.running.map (fun r => { r with raced := true, inputRaced := r.inputRaced || input }) := rfl
@[simp] theorem markRaced_sched (input : Bool) (s : State) : (markRaced input s).sched = s.sched := rfl
@[simp] theorem markRaced_keyed (input : Bool) (s : State) : (markRaced input s).keyed = s.keyed := rfl
@[simp] theorem markRaced_gen (input : Bool) (s : State) : (markRaced input s).gen = s.gen := rfl
@[simp] theorem markRaced_mem (input : Bool) (s : State) : (markRaced input s).mem = s.mem := rfl
@[simp] theorem markRaced_host (input : Bool) (s : State) : (markRaced input s).host = s.host := rfl
@[simp] theorem markRaced_readData (input : Bool) (s : State) : (markRaced input s).readData = s.readData := rfl
@[simp] theorem markRaced_ticket (input : Bool) (s : State) : (markRaced input s).ticket = s.ticket := rfl

@[simp] theorem tick_cfg (s : State) : (tick s).cfg = s.cfg := rfl
@[simp] theorem tick_cmd (s : State) : (tick s).cmd = s.cmd := rfl
@[simp] theorem tick_err (s : State) : (tick s).err = s.err := rfl
@[simp] theorem tick_errcode (s : State) : (tick s).errcode = s.errcode := rfl
@[simp] theorem tick_x (s : State) : (tick s).x = s.x := rfl
@[simp] theorem tick_running (s : State) : (tick s).running = s.running.map (fun r => { r with left := r.left - 1 }) := rfl
@[simp] theorem tick_sched (s : State) : (tick s).sched = s.sched := rfl
@[simp] theorem tick_keyed (s : State) : (tick s).keyed = s.keyed := rfl
@[simp] theorem tick_gen (s : State) : (tick s).gen = s.gen := rfl
@[simp] theorem tick_mem (s : State) : (tick s).mem = s.mem := rfl
@[simp] theorem tick_host (s : State) : (tick s).host = s.host := rfl
@[simp] theorem tick_readData (s : State) : (tick s).readData = s.readData := rfl
@[simp] theorem tick_ticket (s : State) : (tick s).ticket = s.ticket := rfl

@[simp] theorem withCommand_cfg (w : Word) (s : State) : (withCommand w s).cfg = s.cfg := rfl
@[simp] theorem withCommand_cmd (w : Word) (s : State) : (withCommand w s).cmd = w := rfl
@[simp] theorem withCommand_err (w : Word) (s : State) : (withCommand w s).err = s.err := rfl
@[simp] theorem withCommand_errcode (w : Word) (s : State) : (withCommand w s).errcode = s.errcode := rfl
@[simp] theorem withCommand_x (w : Word) (s : State) : (withCommand w s).x = s.x := rfl
@[simp] theorem withCommand_running (w : Word) (s : State) : (withCommand w s).running = some { left := 0, raced := false } := rfl
@[simp] theorem withCommand_sched (w : Word) (s : State) : (withCommand w s).sched = s.sched := rfl
@[simp] theorem withCommand_keyed (w : Word) (s : State) : (withCommand w s).keyed = s.keyed := rfl
@[simp] theorem withCommand_gen (w : Word) (s : State) : (withCommand w s).gen = s.gen := rfl
@[simp] theorem withCommand_mem (w : Word) (s : State) : (withCommand w s).mem = s.mem := rfl
@[simp] theorem withCommand_host (w : Word) (s : State) : (withCommand w s).host = s.host := rfl
@[simp] theorem withCommand_readData (w : Word) (s : State) : (withCommand w s).readData = s.readData := rfl
@[simp] theorem withCommand_ticket (w : Word) (s : State) : (withCommand w s).ticket = s.ticket := rfl

@[simp] theorem freeResults_cfg (t : Nat) (rs : List (Fin 8)) (s : State) : (freeResults t rs s).cfg = s.cfg := rfl
@[simp] theorem freeResults_cmd (t : Nat) (rs : List (Fin 8)) (s : State) : (freeResults t rs s).cmd = s.cmd := rfl
@[simp] theorem freeResults_err (t : Nat) (rs : List (Fin 8)) (s : State) : (freeResults t rs s).err = s.err := rfl
@[simp] theorem freeResults_errcode (t : Nat) (rs : List (Fin 8)) (s : State) : (freeResults t rs s).errcode = s.errcode := rfl
@[simp] theorem freeResults_running (t : Nat) (rs : List (Fin 8)) (s : State) : (freeResults t rs s).running = s.running := rfl
@[simp] theorem freeResults_sched (t : Nat) (rs : List (Fin 8)) (s : State) : (freeResults t rs s).sched = s.sched := rfl
@[simp] theorem freeResults_keyed (t : Nat) (rs : List (Fin 8)) (s : State) : (freeResults t rs s).keyed = s.keyed := rfl
@[simp] theorem freeResults_gen (t : Nat) (rs : List (Fin 8)) (s : State) : (freeResults t rs s).gen = s.gen := rfl
@[simp] theorem freeResults_mem (t : Nat) (rs : List (Fin 8)) (s : State) : (freeResults t rs s).mem = s.mem := rfl
@[simp] theorem freeResults_host (t : Nat) (rs : List (Fin 8)) (s : State) : (freeResults t rs s).host = s.host := rfl
@[simp] theorem freeResults_readData (t : Nat) (rs : List (Fin 8)) (s : State) : (freeResults t rs s).readData = s.readData := rfl
@[simp] theorem freeResults_ticket (t : Nat) (rs : List (Fin 8)) (s : State) : (freeResults t rs s).ticket = s.ticket := rfl

@[simp] theorem freeEngine_cfg (t : Nat) (e : Engine) (s : State) : (freeEngine t e s).cfg = s.cfg := by
  cases e <;> simp only [freeEngine]
@[simp] theorem freeEngine_cmd (t : Nat) (e : Engine) (s : State) : (freeEngine t e s).cmd = s.cmd := by
  cases e <;> simp only [freeEngine]
@[simp] theorem freeEngine_err (t : Nat) (e : Engine) (s : State) : (freeEngine t e s).err = s.err := by
  cases e <;> simp only [freeEngine]
@[simp] theorem freeEngine_errcode (t : Nat) (e : Engine) (s : State) : (freeEngine t e s).errcode = s.errcode := by
  cases e <;> simp only [freeEngine]
@[simp] theorem freeEngine_x (t : Nat) (e : Engine) (s : State) : (freeEngine t e s).x = s.x := by
  cases e <;> simp only [freeEngine]
@[simp] theorem freeEngine_running (t : Nat) (e : Engine) (s : State) : (freeEngine t e s).running = s.running := by
  cases e <;> simp only [freeEngine]
@[simp] theorem freeEngine_mem (t : Nat) (e : Engine) (s : State) : (freeEngine t e s).mem = s.mem := by
  cases e <;> simp only [freeEngine]
@[simp] theorem freeEngine_host (t : Nat) (e : Engine) (s : State) : (freeEngine t e s).host = s.host := by
  cases e <;> simp only [freeEngine]
@[simp] theorem freeEngine_readData (t : Nat) (e : Engine) (s : State) : (freeEngine t e s).readData = s.readData := by
  cases e <;> simp only [freeEngine]
@[simp] theorem freeEngine_ticket (t : Nat) (e : Engine) (s : State) : (freeEngine t e s).ticket = s.ticket := by
  cases e <;> simp only [freeEngine]

@[simp] theorem spoil_cfg (i : Instr) (rs : List Range) (s : State) : (spoil i rs s).cfg = s.cfg := by
  simp only [spoil, freeEngine_cfg]
@[simp] theorem spoil_cmd (i : Instr) (rs : List Range) (s : State) : (spoil i rs s).cmd = s.cmd := by
  simp only [spoil, freeEngine_cmd]
@[simp] theorem spoil_err (i : Instr) (rs : List Range) (s : State) : (spoil i rs s).err = s.err := by
  simp only [spoil, freeEngine_err]
@[simp] theorem spoil_errcode (i : Instr) (rs : List Range) (s : State) : (spoil i rs s).errcode = s.errcode := by
  simp only [spoil, freeEngine_errcode]
@[simp] theorem spoil_x (i : Instr) (rs : List Range) (s : State) : (spoil i rs s).x = s.x := by
  simp only [spoil, freeEngine_x]
@[simp] theorem spoil_running (i : Instr) (rs : List Range) (s : State) : (spoil i rs s).running = s.running := by
  simp only [spoil, freeEngine_running]
@[simp] theorem spoil_mem (i : Instr) (rs : List Range) (s : State) : (spoil i rs s).mem = freeRanges s.ticket s.mem rs := by
  simp only [spoil, freeEngine_mem]
@[simp] theorem spoil_host (i : Instr) (rs : List Range) (s : State) : (spoil i rs s).host = s.host := by
  simp only [spoil, freeEngine_host]
@[simp] theorem spoil_readData (i : Instr) (rs : List Range) (s : State) : (spoil i rs s).readData = s.readData := by
  simp only [spoil, freeEngine_readData]
@[simp] theorem spoil_ticket (i : Instr) (rs : List Range) (s : State) : (spoil i rs s).ticket = s.ticket + 1 := by
  simp only [spoil]

@[simp] theorem midFault_cfg (c : FaultCode) (i : Instr) (s : State) :
    (midFault c i s).cfg = s.cfg := by
  simp only [midFault, raise, spoil_cfg]
@[simp] theorem midFault_cmd (c : FaultCode) (i : Instr) (s : State) :
    (midFault c i s).cmd = s.cmd := by
  simp only [midFault, raise, spoil_cmd]
@[simp] theorem midFault_err (c : FaultCode) (i : Instr) (s : State) :
    (midFault c i s).err = true := by
  simp only [midFault, raise]
@[simp] theorem midFault_errcode (c : FaultCode) (i : Instr) (s : State) :
    (midFault c i s).errcode = if s.err then s.errcode else c.code := by
  simp only [midFault, raise, spoil_err, spoil_errcode]
@[simp] theorem midFault_x (c : FaultCode) (i : Instr) (s : State) :
    (midFault c i s).x = s.x := by
  simp only [midFault, raise, spoil_x]
@[simp] theorem midFault_running (c : FaultCode) (i : Instr) (s : State) :
    (midFault c i s).running = none := by
  simp only [midFault, raise]
@[simp] theorem midFault_mem (c : FaultCode) (i : Instr) (s : State) :
    (midFault c i s).mem = freeRanges s.ticket s.mem (writeRanges i s) := by
  simp only [midFault, raise, spoil_mem]
@[simp] theorem midFault_host (c : FaultCode) (i : Instr) (s : State) :
    (midFault c i s).host = s.host := by
  simp only [midFault, raise, spoil_host]
@[simp] theorem midFault_readData (c : FaultCode) (i : Instr) (s : State) :
    (midFault c i s).readData = s.readData := by
  simp only [midFault, raise, spoil_readData]
@[simp] theorem midFault_ticket (c : FaultCode) (i : Instr) (s : State) :
    (midFault c i s).ticket = s.ticket + 1 := by
  simp only [midFault, raise, spoil_ticket]

/-- A command of another engine spoils no Blowfish state. -/
theorem spoil_blowfish (i : Instr) (rs : List Range) (s : State) (h : engineOf i ≠ .blowfish) :
    (spoil i rs s).sched = s.sched ∧ (spoil i rs s).keyed = s.keyed := by
  simp only [spoil]
  cases hi : engineOf i with
  | blowfish => exact absurd hi h
  | mersenne => simp only [freeEngine, and_self]
  | base64 => simp only [freeEngine, and_self]
  | byteOrder => simp only [freeEngine, and_self]

/-- A command of another engine spoils no Mersenne-Twister state. -/
theorem spoil_mersenne (i : Instr) (rs : List Range) (s : State) (h : engineOf i ≠ .mersenne) :
    (spoil i rs s).gen = s.gen := by
  simp only [spoil]
  cases hi : engineOf i with
  | mersenne => exact absurd hi h
  | blowfish => simp only [freeEngine]
  | base64 => simp only [freeEngine]
  | byteOrder => simp only [freeEngine]

/-- The cursor's free value keeps the bound of R32. -/
theorem freeCursor_le (t : Nat) : (freeCursor t).toNat ≤ 625 := by
  simp only [freeCursor, BitVec.toNat_ofNat]
  omega

/-- A spoilt engine's cursor is the old one or a free one. -/
theorem spoil_cursor_le (i : Instr) (rs : List Range) (s : State) (h : s.gen.mti.toNat ≤ 625) :
    (spoil i rs s).gen.mti.toNat ≤ 625 := by
  simp only [spoil]
  cases engineOf i with
  | mersenne => simp only [freeEngine]; exact freeCursor_le _
  | blowfish => simp only [freeEngine]; exact h
  | base64 => simp only [freeEngine]; exact h
  | byteOrder => simp only [freeEngine]; exact h

@[simp] theorem finish_busy (s : State) : (finish s).busy = false := rfl
@[simp] theorem raise_busy (c : FaultCode) (s : State) : (raise c s).busy = false := rfl

/-- Only ERRCODE, ERR and BUSY depend on the fault. -/
theorem raise_status_fields (c : FaultCode) (s : State) :
    (raise c s).mtSeeded = s.mtSeeded ∧ (raise c s).keyed = s.keyed := ⟨rfl, rfl⟩

end Sys2Proof.Machine
end

