-- ==== Sys2Proof/Safety.lean ====
section
/-! DEFINITION. The terms that claims use: the machine's invariant, what a command leaves as it was, how it ends, and
when a range of memory may be used. -/

namespace Sys2Proof.Machine

/-! ### The invariant -/

/-- What holds at reset and every step keeps: memory in its canonical form (R50), the cursor in 0..625 (R32), ERRCODE
0 exactly when ERR is 0 and never above 0x0D (R24, R191), and no command in progress while ERR is 1 (R23, R195). -/
structure Inv (s : State) : Prop where
  memWf     : Memory.wf s.mem = true
  cursor    : s.gen.mti.toNat ≤ 625
  codeZero  : s.errcode = 0#8 ↔ s.err = false
  codeRange : s.errcode.toNat ≤ 13
  busyClean : s.busy = true → s.err = false

/-! ### What stays as it was -/

/-- What no command writes: the open parameters, CMD, the host's moves and what its last read returned. -/
def KeepsOutside (s t : State) : Prop :=
  t.cfg = s.cfg ∧ t.cmd = s.cmd ∧ t.host = s.host ∧ t.readData = s.readData

/-- Every X register that is not in the list is unchanged. -/
def KeepsXBut (rs : List (Fin 8)) (s t : State) : Prop := ∀ r : Fin 8, r ∉ rs → t.x[r] = s.x[r]

/-- `P`, `S` and `KEYED` are unchanged. -/
def KeepsBlowfish (s t : State) : Prop := t.sched = s.sched ∧ t.keyed = s.keyed

/-- `mt` and `mti` are unchanged. -/
def KeepsMersenne (s t : State) : Prop := t.gen = s.gen

/-- Every byte of memory reads as before. -/
def KeepsMemory (s t : State) : Prop := ∀ a : Nat, readByte t.mem a = readByte s.mem a

/-- Every byte of memory outside the range reads as before. -/
def KeepsMemoryBut (q : Range) (s t : State) : Prop :=
  ∀ a : Nat, q.has a = false → readByte t.mem a = readByte s.mem a

/-! ### How a command ends -/

/-- A normal end (R26): BUSY is clear, ERR and ERRCODE are unchanged, and nothing outside a command's reach is
written. -/
def EndsNormally (s t : State) : Prop :=
  t.busy = false ∧ t.err = s.err ∧ t.errcode = s.errcode ∧ KeepsOutside s t

/-- Fault entry with a code (R195), as far as STATUS goes. -/
def EntersFault (c : FaultCode) (s t : State) : Prop :=
  t.busy = false ∧ t.err = true ∧ t.errcode = (if s.err then s.errcode else c.code) ∧ KeepsOutside s t

/-- A fault that changes nothing but STATUS (R196, first item). -/
def FaultsCleanly (c : FaultCode) (s t : State) : Prop :=
  EntersFault c s t ∧ t.x = s.x ∧ t.mem = s.mem ∧ KeepsBlowfish s t ∧ KeepsMersenne s t

/-- A command that ends normally having written at most the X registers in the list. -/
def WritesOnlyX (rs : List (Fin 8)) (s t : State) : Prop :=
  EndsNormally s t ∧ KeepsXBut rs s t ∧ KeepsBlowfish s t ∧ KeepsMersenne s t ∧ KeepsMemory s t

/-- A command that ends normally having written at most the X registers in the list and the range of memory. -/
def WritesXAndRange (rs : List (Fin 8)) (q : Range) (s t : State) : Prop :=
  EndsNormally s t ∧ KeepsXBut rs s t ∧ KeepsBlowfish s t ∧ KeepsMersenne s t ∧ KeepsMemoryBut q s t

/-- A command that ends normally having written at most the X registers in the list and the Mersenne-Twister
engine. -/
def WritesXAndMersenne (rs : List (Fin 8)) (s t : State) : Prop :=
  EndsNormally s t ∧ KeepsXBut rs s t ∧ KeepsBlowfish s t ∧ KeepsMemory s t

/-- A fault raised in a command's memory accesses (R196, second item), outside the command's own engine and write
range: STATUS, with the X registers as they were. -/
def FaultsInMemory (c : FaultCode) (q : Range) (s t : State) : Prop :=
  EntersFault c s t ∧ t.x = s.x ∧ KeepsMemoryBut q s t

/-- A host-access fault while BUSY (R192): the running command ends as by a fault, the first code kept; CMD is
unchanged, and so are X, but for the result registers of a raced command (R64; log entry 11), the memory outside what the
command may write (log entries 10 and 11), and the engines it does not belong to; where CMD is no legal word nothing but
STATUS changes. -/
def AbortsCommand (c : FaultCode) (s t : State) : Prop :=
  t.cfg = s.cfg ∧ t.cmd = s.cmd ∧ t.busy = false ∧ t.err = true ∧
    t.errcode = (if s.err then s.errcode else c.code) ∧ (isRaced s = false → t.x = s.x) ∧
    (∀ i, decode s.cmd = .ok i → KeepsXBut (resultRegs i) s t ∧
      (∀ a : Nat, (∀ q ∈ openRanges i s, q.has a = false) → readByte t.mem a = readByte s.mem a) ∧
      (engineOf i ≠ .blowfish → KeepsBlowfish s t) ∧ (engineOf i ≠ .mersenne → KeepsMersenne s t)) ∧
    (∀ e, decode s.cmd = .error e → t.x = s.x ∧ t.mem = s.mem ∧ KeepsBlowfish s t ∧ KeepsMersenne s t)

/-! ### Ranges -/

/-- R58's range check. -/
def InSpace (a n : Nat) : Prop := n = 0 ∨ a + n ≤ 4294967296

/-- MEM_ADMIT refuses some byte of the range (R57). -/
def Refuses (s : State) (a n : Nat) (write : Bool) : Prop := ∃ k < n, memAdmit s.cfg (a + k) write = false

/-- The range is well formed (R58) and MEM_ADMIT lets the core read all of it (R57). -/
def Readable (s : State) (a n : Nat) : Prop :=
  InSpace a n ∧ ∀ k < n, memAdmit s.cfg (a + k) false = true

/-- The range is well formed (R58) and MEM_ADMIT lets the core write all of it (R57). -/
def Writable (s : State) (a n : Nat) : Prop :=
  InSpace a n ∧ ∀ k < n, memAdmit s.cfg (a + k) true = true

/-- The two ranges share no byte, or one is empty (R59). -/
def Apart (a n b m : Nat) : Prop := n = 0 ∨ m = 0 ∨ a + n ≤ b ∨ b + m ≤ a

/-! ### Base64 and Blowfish operands in memory -/

/-- A byte of the Base64 alphabet (R100). -/
def AlphabetChar (c : Byte) : Prop := ∃ v : BitVec 6, alpha v = c

/-- A legal group (R106). -/
def GroupLegal (final : Prop) (q0 q1 q2 q3 : Byte) : Prop :=
  AlphabetChar q0 ∧
    ((AlphabetChar q1 ∧ AlphabetChar q2 ∧ AlphabetChar q3) ∨
      (final ∧ ((AlphabetChar q1 ∧ AlphabetChar q2 ∧ q3 = 0x3D#8) ∨ (AlphabetChar q1 ∧ q2 = 0x3D#8 ∧ q3 = 0x3D#8) ∨
        (q1 = 0x3D#8 ∧ q2 = 0x3D#8 ∧ q3 = 0x3D#8))))

/-- `c[i]` of R105: the source character, `=` past the end. -/
def charAt (s : State) (i : Nat) : Byte :=
  if i < s.x[2].toNat then readByte s.mem (s.x[1].toNat + i) else 0x3D#8

/-- The number of groups of R107. -/
def groupCount (s : State) : Nat := (s.x[2].toNat + 3) / 4

/-- Group `g` of B64_DECODE's input is legal (R106). -/
def GroupLegalAt (s : State) (g : Nat) : Prop :=
  GroupLegal (g + 1 = groupCount s) (charAt s (4 * g)) (charAt s (4 * g + 1)) (charAt s (4 * g + 2))
    (charAt s (4 * g + 3))

/-- The decoded count of R107, of an input whose groups are legal: three a group, less the final group's pads. -/
def decodedCount (s : State) : Nat :=
  if s.x[2].toNat = 0 then 0
  else 3 * groupCount s -
    (if charAt s (4 * groupCount s - 2) = 0x3D#8 then 2
     else if charAt s (4 * groupCount s - 1) = 0x3D#8 then 1 else 0)

/-- The half at an address as R135 packs it. -/
def halfAt (s : State) (a : Nat) : Word :=
  match s.cfg.wordOrder with
  | .big    => readByte s.mem a ++ readByte s.mem (a + 1) ++ readByte s.mem (a + 2) ++ readByte s.mem (a + 3)
  | .little => readByte s.mem (a + 3) ++ readByte s.mem (a + 2) ++ readByte s.mem (a + 1) ++ readByte s.mem a

/-- The little-endian word at an address (R12, R54). -/
def wordAt (s : State) (a : Nat) : Word :=
  readByte s.mem (a + 3) ++ readByte s.mem (a + 2) ++ readByte s.mem (a + 1) ++ readByte s.mem a

/-- B64_ENCODE's ranges pass its checks (R103). -/
def EncodeRangesOk (s : State) : Prop :=
  InSpace s.x[1].toNat s.x[2].toNat ∧ InSpace s.x[0].toNat (encLen s.x[2].toNat) ∧
    Apart s.x[1].toNat s.x[2].toNat s.x[0].toNat (encLen s.x[2].toNat)

/-- B64_ENCODE runs to its end (R103): the length fits, the ranges pass, and every byte is admitted. -/
def EncodeReady (s : State) : Prop :=
  encLen s.x[2].toNat ≤ 4294967295 ∧ EncodeRangesOk s ∧ Readable s s.x[1].toNat s.x[2].toNat ∧
    Writable s s.x[0].toNat (encLen s.x[2].toNat)

/-- B64_DECODE's ranges pass its checks (R107). -/
def DecodeRangesOk (s : State) : Prop :=
  InSpace s.x[1].toNat s.x[2].toNat ∧ InSpace s.x[0].toNat (decLen s.x[2].toNat) ∧
    Apart s.x[1].toNat s.x[2].toNat s.x[0].toNat (decLen s.x[2].toNat)

/-- A Blowfish string command's operands pass its checks (R136). -/
def StringRangesOk (s : State) : Prop :=
  s.x[1].toNat % 8 = 0 ∧ InSpace s.x[0].toNat s.x[1].toNat ∧ InSpace s.x[2].toNat s.x[1].toNat ∧
    (s.x[2] = s.x[0] ∨ Apart s.x[0].toNat s.x[1].toNat s.x[2].toNat s.x[1].toNat)

/-- A Blowfish string command runs to its end (R136). -/
def StringReady (s : State) : Prop :=
  s.keyed = true ∧ StringRangesOk s ∧ Readable s s.x[0].toNat s.x[1].toNat ∧ Writable s s.x[2].toNat s.x[1].toNat

/-! ### What the host's next move is -/

/-- The host's next move is `e` and the machine makes it: no command is in progress, or one that does not end yet. -/
def HostMoves (s : State) (e : HostEvent) (rest : List HostEvent) : Prop :=
  s.host = e :: rest ∧ ∀ r, s.running = some r → r.left ≠ 0

/-! ### Sequences of commands -/

/-- The X registers after each command of a sequence, each run on the operands given with it. -/
def resultsOf : List (Vector Word 8 × Instr) → State → List (Vector Word 8)
  | [], _           => []
  | (x, i) :: cs, s =>
    match exec i { s with x := x } with
    | .next t    => t.x :: resultsOf cs t
    | .fault _   => []
    | .refused _ => []

end Sys2Proof.Machine
end

