-- ==== Sys2Proof/Laws/Ops.lean ====
section
/-! SUPPORT. One lemma for each shared operation, saying all it can do; later proofs cite these instead of unfolding
the operations. -/

namespace Sys2Proof.Machine

/-! ### The loop -/

@[simp] theorem forUp_zero {α : Type} (body : Nat → α → α) (a : α) : forUp 0 body a = a := rfl
@[simp] theorem forUp_succ {α : Type} (n : Nat) (body : Nat → α → α) (a : α) :
    forUp (n + 1) body a = body n (forUp n body a) := rfl

/-- A property that every turn carries from one count to the next holds after the loop. -/
theorem forUp_invariant {α : Type} (P : Nat → α → Prop) (n : Nat) (body : Nat → α → α) (a : α) (h0 : P 0 a)
    (hs : ∀ k b, k < n → P k b → P (k + 1) (body k b)) : P n (forUp n body a) := by
  induction n with
  | zero => exact h0
  | succ n ih => exact hs n _ (by omega) (ih (fun k b hk => hs k b (by omega)))

/-! ### Bytes -/

@[simp] theorem length_leBytes (n v : Nat) : (leBytes n v).length = n := by
  induction n generalizing v with
  | zero => rfl
  | succ n ih => simp [leBytes, ih]

/-- Byte `k` of the low `n` bytes of a number. -/
theorem getElem_leBytes (n v k : Nat) (h : k < (leBytes n v).length) :
    (leBytes n v)[k] = BitVec.ofNat 8 (v / 256 ^ k) := by
  induction n generalizing v k with
  | zero => simp at h
  | succ n ih =>
    cases k with
    | zero => simp [leBytes]
    | succ k =>
      have h' : k < (leBytes n (v / 256)).length := by simpa using h
      have := ih (v / 256) k h'
      simpa [leBytes, Nat.div_div_eq_div_mul, Nat.pow_succ, Nat.mul_comm] using this

/-- A byte sequence is less than 256 to its length. -/
theorem leValue_lt (bs : List Byte) : leValue bs < 256 ^ bs.length := by
  induction bs with
  | nil => simp [leValue]
  | cons b bs ih =>
    have hb : b.toNat < 256 := b.isLt
    simp only [leValue, List.length_cons, Nat.pow_succ]
    omega

/-- Composing the bytes of a number gives its low bytes back. -/
theorem leValue_leBytes (n v : Nat) : leValue (leBytes n v) = v % 256 ^ n := by
  induction n generalizing v with
  | zero => simp [leBytes, leValue, Nat.mod_one]
  | succ n ih =>
    have h8 : (BitVec.ofNat 8 v).toNat = v % 256 := BitVec.toNat_ofNat v 8
    rw [leBytes, leValue, ih, h8, Nat.pow_succ, Nat.mul_comm (256 ^ n) 256, Nat.mod_mul]

/-! ### The memory port -/

/-- Admission of a range, address by address. -/
theorem admitsAll_iff (c : Config) (a n : Nat) (w : Bool) :
    admitsAll c a n w = true ↔ ∀ k < n, memAdmit c (a + k) w = true := by
  simp [admitsAll, List.all_eq_true]

/-- A load answers the range's bytes, and only where all of it is admitted. -/
theorem loadBytes_eq_some (s : State) (a n : Nat) (bs : List Byte) :
    loadBytes s a n = some bs ↔ (∀ k < n, memAdmit s.cfg (a + k) false = true) ∧ bs = readBytes s.mem a n := by
  rw [← admitsAll_iff]
  unfold loadBytes
  split_ifs with h <;> simp [h, eq_comm]

/-- A load of a readable range. -/
theorem loadBytes_of_readable {s : State} {a n : Nat} (h : Readable s a n) :
    loadBytes s a n = some (readBytes s.mem a n) :=
  (loadBytes_eq_some s a n _).2 ⟨h.2, rfl⟩

/-- A store writes memory and nothing else, and only where all of the range is admitted. -/
theorem storeBytes_eq_some (s t : State) (a : Nat) (bs : List Byte) :
    storeBytes s a bs = some t ↔
      (∀ k < bs.length, memAdmit s.cfg (a + k) true = true) ∧ t = { s with mem := writeBytes s.mem a bs } := by
  rw [← admitsAll_iff]
  unfold storeBytes
  split_ifs with h <;> simp [h, eq_comm]

/-- A store of a writable range. -/
theorem storeBytes_of_writable {s : State} {a : Nat} {bs : List Byte} (h : Writable s a bs.length) :
    storeBytes s a bs = some { s with mem := writeBytes s.mem a bs } :=
  (storeBytes_eq_some s _ a bs).2 ⟨h.2, rfl⟩

/-- The range check of R58, as a proposition. -/
theorem Range.ok_iff (a n : Nat) : ({ base := a, len := n : Range }).ok = true ↔ n = 0 ∨ a + n ≤ 4294967296 := by
  exact decide_eq_true_iff

/-- The overlap check of R59, as a proposition. -/
theorem Range.not_overlaps_iff (a n b m : Nat) :
    ({ base := a, len := n : Range }).overlaps { base := b, len := m } = false ↔ Apart a n b m := by
  simp only [Range.overlaps, Apart, decide_eq_false_iff_not]
  omega

/-! ### A command's end -/

/-- A fault before the first memory access changes nothing but STATUS. -/
theorem raise_faultsCleanly (c : FaultCode) (s : State) : FaultsCleanly c s (raise c s) :=
  ⟨⟨rfl, rfl, rfl, rfl, rfl, rfl, rfl⟩, rfl, rfl, ⟨rfl, rfl⟩, rfl⟩

/-- A fault in the memory accesses: STATUS, the write ranges and the engine; X is unchanged. -/
theorem midFault_spec (c : FaultCode) (i : Instr) (s : State) :
    EntersFault c s (midFault c i s) ∧ (midFault c i s).x = s.x ∧
      (∀ a, (∀ r ∈ writeRanges i s, r.has a = false) → readByte (midFault c i s).mem a = readByte s.mem a) ∧
      (engineOf i ≠ .blowfish → KeepsBlowfish s (midFault c i s)) ∧
      (engineOf i ≠ .mersenne → KeepsMersenne s (midFault c i s)) := by
  refine ⟨⟨rfl, by simp, by simp, ?_⟩, by simp, fun a h => ?_, fun h => ?_, fun h => ?_⟩
  · exact ⟨by simp, by simp, by simp, by simp⟩
  · rw [midFault_mem]; exact readByte_freeRanges_other _ _ _ _ h
  · exact spoil_blowfish i _ s h
  · exact spoil_mersenne i _ s h

/-- Freeing result registers leaves every other X register alone. -/
theorem freeResults_keeps (t : Nat) (rs : List (Fin 8)) (s : State) : KeepsXBut rs s (freeResults t rs s) := by
  have h : ∀ (rs : List (Fin 8)) (x : Vector Word 8) (r : Fin 8), r ∉ rs →
      (rs.foldl (fun (x : Vector Word 8) (r : Fin 8) => x.set r (Config.freeWord t (.x r.val))) x)[r] = x[r] := by
    intro rs
    induction rs with
    | nil => intro x r _; rfl
    | cons q rs ih =>
      intro x r hr
      obtain ⟨hq, hr⟩ : r ≠ q ∧ r ∉ rs := by simpa using hr
      rw [List.foldl_cons, ih _ r hr]
      have hne : q.val ≠ r.val := fun h => hq (Fin.ext h.symm)
      simp only [Fin.getElem_fin, Vector.getElem_set, if_neg hne]
  exact fun r hr => h rs s.x r hr

/-- An abort, of whatever runs: STATUS and what is outside the core stay; of a legal command the registers but a raced
command's results, the memory outside its open ranges and the other engines stay. -/
theorem abort_spec (s : State) :
    KeepsOutside s (abort s) ∧ (abort s).err = s.err ∧ (abort s).errcode = s.errcode ∧
      (isRaced s = false → (abort s).x = s.x) ∧
      (∀ i, decode s.cmd = .ok i → KeepsXBut (resultRegs i) s (abort s) ∧
        (∀ a, (∀ q ∈ openRanges i s, q.has a = false) → readByte (abort s).mem a = readByte s.mem a) ∧
        (engineOf i ≠ .blowfish → KeepsBlowfish s (abort s)) ∧ (engineOf i ≠ .mersenne → KeepsMersenne s (abort s))) := by
  unfold abort isRaced commandOf
  cases s.running with
  | none => exact ⟨⟨rfl, rfl, rfl, rfl⟩, rfl, rfl, fun _ => rfl, fun i _ =>
      ⟨fun _ _ => rfl, fun _ _ => rfl, fun _ => ⟨rfl, rfl⟩, fun _ => rfl⟩⟩
  | some r =>
    obtain ⟨left, raced, input⟩ := r
    cases hd : decode s.cmd with
    | error e => exact ⟨⟨rfl, rfl, rfl, rfl⟩, rfl, rfl, fun _ => rfl, fun i h => nomatch h⟩
    | ok i =>
      have hmem : ∀ a, (∀ q ∈ openRanges i s, q.has a = false) →
          readByte (spoil i (openRanges i s) s).mem a = readByte s.mem a := fun a h => by
        rw [spoil_mem]; exact readByte_freeRanges_other _ _ _ _ h
      have hx : KeepsXBut (resultRegs i) s (spoil i (openRanges i s) s) := fun r _ => by rw [spoil_x]
      have hfr := freeResults_keeps s.ticket (resultRegs i) (spoil i (openRanges i s) s)
      cases raced
      · refine ⟨⟨spoil_cfg .., spoil_cmd .., spoil_host .., spoil_readData ..⟩, spoil_err .., spoil_errcode ..,
          fun _ => spoil_x .., fun j h => ?_⟩
        obtain rfl : i = j := by simpa using h
        exact ⟨hx, hmem, fun h => spoil_blowfish i _ s h, fun h => spoil_mersenne i _ s h⟩
      · refine ⟨⟨spoil_cfg .., spoil_cmd .., spoil_host .., spoil_readData ..⟩, spoil_err .., spoil_errcode ..,
          fun h => Bool.noConfusion h, fun j h => ?_⟩
        obtain rfl : i = j := by simpa using h
        exact ⟨fun q hq => (hfr q hq).trans (hx q hq), hmem, fun h => spoil_blowfish i _ s h,
          fun h => spoil_mersenne i _ s h⟩

/-- The loaded tables of a raced command are `P`, `S` and the generator: nothing else changes. -/
theorem freeLoaded_spec (t : Nat) (i : Instr) (s : State) :
    freeLoaded t i s = { s with sched := (freeLoaded t i s).sched, gen := (freeLoaded t i s).gen } ∧
      (i ≠ .bfInit → (freeLoaded t i s).sched = s.sched) ∧
      (i ≠ .mtSeedArray → i ≠ .mtRestore → (freeLoaded t i s).gen = s.gen) := by
  cases i <;> exact ⟨rfl, fun h => by first | rfl | exact absurd rfl h, fun h k => by
    first | rfl | exact absurd rfl h | exact absurd rfl k⟩

/-- What a race leaves alone: what is outside the core, STATUS but MT_SEEDED, the registers but the results, the memory
outside the ranges, and after a fault both engines. -/
theorem afterRace_spec (i : Instr) (rs : List Range) (s : State) :
    KeepsOutside s (afterRace i rs s) ∧ (afterRace i rs s).err = s.err ∧ (afterRace i rs s).errcode = s.errcode ∧
      (afterRace i rs s).running = s.running ∧ (afterRace i rs s).keyed = s.keyed ∧
      KeepsXBut (resultRegs i) s (afterRace i rs s) ∧
      (∀ a, (∀ q ∈ rs, q.has a = false) → readByte (afterRace i rs s).mem a = readByte s.mem a) ∧
      (s.err = true → (afterRace i rs s).sched = s.sched ∧ (afterRace i rs s).gen = s.gen) := by
  have hmem : ∀ a, (∀ q ∈ rs, q.has a = false) → readByte (freeRanges s.ticket s.mem rs) a = readByte s.mem a :=
    fun a h => readByte_freeRanges_other _ _ _ _ h
  have hx : KeepsXBut (resultRegs i) s
      (freeResults s.ticket (resultRegs i) { s with mem := freeRanges s.ticket s.mem rs }) :=
    freeResults_keeps _ _ { s with mem := freeRanges s.ticket s.mem rs }
  unfold afterRace
  cases s.err
  · simp only [Bool.false_eq_true, if_false]
    rw [(freeLoaded_spec _ _ _).1]
    exact ⟨⟨rfl, rfl, rfl, rfl⟩, rfl, rfl, rfl, rfl, hx, hmem, fun h => nomatch h⟩
  · simp only [freeResults_err, if_true]
    exact ⟨⟨rfl, rfl, rfl, rfl⟩, trivial, rfl, rfl, rfl, hx, hmem, fun _ => ⟨rfl, rfl⟩⟩

/-! ### Base64 lengths -/

/-- A group keeps at most three bytes. -/
theorem length_decGroup_le (q0 q1 q2 q3 : Byte) : (decGroup q0 q1 q2 q3).length ≤ 3 := by
  simp only [decGroup, List.length_take, List.length_cons, List.length_nil]
  omega

/-- Whole groups decode to at most three bytes each. -/
theorem length_decGroups_le (cs : List Byte) : (decGroups cs).1.length ≤ 3 * (cs.length / 4) := by
  induction cs using decGroups.induct with
  | case1 q0 q1 q2 q3 rest h ih =>
    have := length_decGroup_le q0 q1 q2 q3
    simp only [decGroups, h, if_true, List.length_append, List.length_cons]
    omega
  | case2 q0 q1 q2 q3 rest h => simp [decGroups, h]
  | case3 cs h =>
    unfold decGroups
    split
    · exact (h _ _ _ _ _ rfl).elim
    · exact Nat.zero_le _

/-- The characters as padded: whole groups. -/
theorem length_padTo4 (cs : List Byte) : (padTo4 cs).length = 4 * ((cs.length + 3) / 4) := by
  simp only [padTo4, List.length_append, List.length_replicate]
  omega

/-- A decoding is no longer than the hint DL (R108). -/
theorem length_b64Decode_le (cs : List Byte) : (b64Decode cs).1.length ≤ decLen cs.length := by
  have := length_decGroups_le (padTo4 cs)
  rw [length_padTo4] at this
  simp only [b64Decode, decLen]
  omega

/-- B64_DECODE's write range lies in its destination's range (R51). -/
theorem decodeReach_le (s : State) : decodeReach s ≤ decLen s.x[2].toNat := by
  unfold decodeReach
  split
  · exact Nat.le_refl _
  · next cs h =>
    obtain ⟨-, rfl⟩ := (loadBytes_eq_some _ _ _ _).1 h
    simpa using length_b64Decode_le (readBytes s.mem s.x[1].toNat s.x[2].toNat)

/-! ### X registers -/

/-- X0 to X7 after a register write. -/
theorem setX_get (i j : Fin 8) (v : Word) (s : State) : (setX i v s).x[j] = if j = i then v else s.x[j] := by
  simp only [setX_x, Fin.getElem_fin, Vector.getElem_set, Fin.ext_iff, eq_comm]

/-! ### The shared commands -/

/-- BSWAP and FIXBO write X0, and X1 for size 8, and end. -/
theorem onRegister_spec (f : Nat → Nat → Nat) (sz : Nat) (s : State) :
    onRegister f sz s = { s with x := (onRegister f sz s).x } ∧
      ∀ r : Fin 8, r ≠ 0 → (sz = 8 → r ≠ 1) → (onRegister f sz s).x[r] = s.x[r] := by
  unfold onRegister
  split_ifs with h
  · refine ⟨rfl, fun r h0 h1 => ?_⟩
    have h1 := h1 h
    simp only [setPair0, setX_get, if_neg h0, if_neg h1]
  · refine ⟨rfl, fun r h0 _ => ?_⟩
    simp only [setX_get, if_neg h0]

/-- FIXBO_ARRAY ends in a clean fault, in a bus error, with no access at all, or with the range's elements
reversed. -/
theorem fixboArray_cases (i : Instr) (sz : Nat) (s : State) :
    fixboArray i sz s = raise .badBuffer s ∨ fixboArray i sz s = midFault .busError i s ∨
      fixboArray i sz s = finish s ∨
      fixboArray i sz s = finish { s with
        mem := writeBytes s.mem s.x[0].toNat
          (swapElements sz ((s.x[1].toNat - s.x[0].toNat) / sz)
            (readBytes s.mem s.x[0].toNat (s.x[1].toNat - s.x[0].toNat))) } := by
  unfold fixboArray
  simp only
  split_ifs
  · exact .inl rfl
  · exact .inl rfl
  · split
    · exact .inr (.inl rfl)
    · next bs hl =>
      obtain ⟨-, rfl⟩ := (loadBytes_eq_some _ _ _ _).1 hl
      split
      · exact .inr (.inl rfl)
      · next t ht =>
        obtain ⟨-, rfl⟩ := (storeBytes_eq_some _ _ _ _).1 ht
        exact .inr (.inr (.inr rfl))
  · exact .inr (.inr (.inl rfl))

/-- A Blowfish block command faults cleanly, or writes X0 and X1 and ends. -/
theorem bfBlock_cases (f : Schedule → Word → Word → Word × Word) (s : State) :
    (s.keyed = false ∧ bfBlock f s = raise .notKeyed s) ∨
      (s.keyed = true ∧
        bfBlock f s = finish (setX 1 (f s.sched s.x[0] s.x[1]).2 (setX 0 (f s.sched s.x[0] s.x[1]).1 s))) := by
  unfold bfBlock
  cases h : s.keyed
  · exact .inl ⟨rfl, rfl⟩
  · exact .inr ⟨rfl, rfl⟩

/-- A Blowfish string command faults cleanly, ends in a bus error, or writes the enciphered blocks and X3. -/
theorem bfString_cases (i : Instr) (f : Schedule → Word → Word → Word × Word) (s : State) :
    (∃ c, bfString i f s = raise c s) ∨ bfString i f s = midFault .busError i s ∨
      bfString i f s = finish (setX 3 s.x[1] { s with
        mem := writeBytes s.mem s.x[2].toNat
          (onBlocks s.cfg.wordOrder (f s.sched) (readBytes s.mem s.x[0].toNat s.x[1].toNat)) }) := by
  unfold bfString
  simp only
  split_ifs
  · exact .inl ⟨_, rfl⟩
  · exact .inl ⟨_, rfl⟩
  · exact .inl ⟨_, rfl⟩
  · exact .inl ⟨_, rfl⟩
  · exact .inl ⟨_, rfl⟩
  · split
    · exact .inr (.inl rfl)
    · next bs hl =>
      obtain ⟨-, rfl⟩ := (loadBytes_eq_some _ _ _ _).1 hl
      split
      · exact .inr (.inl rfl)
      · next t ht =>
        obtain ⟨-, rfl⟩ := (storeBytes_eq_some _ _ _ _).1 ht
        exact .inr (.inr rfl)

/-- The cursor after a draw is one of 1 to 624. -/
theorem draw_cursor (g : Generator) (h : g.mti.toNat ≤ 625) :
    1 ≤ (draw g).2.mti.toNat ∧ (draw g).2.mti.toNat ≤ 624 := by
  have hs : g.seeded.mti.toNat ≤ 624 := by
    unfold Generator.seeded
    split_ifs with h1
    · decide
    · have : g.mti.toNat ≠ 625 := fun h2 => h1 (BitVec.eq_of_toNat_eq (by simpa using h2))
      omega
  have hr : g.seeded.ready.mti.toNat ≤ 623 := by
    unfold Generator.ready
    split_ifs with h1
    · exact Nat.zero_le _
    · omega
  have : (draw g).2.mti.toNat = g.seeded.ready.mti.toNat + 1 := by
    simp only [draw, BitVec.toNat_add, BitVec.toNat_ofNat]
    omega
  omega

/-! ### Blowfish -/

/-- A round undoes itself, halves exchanged, under the same key: the Feistel step of R122 and R123. -/
theorem bfRound_undo (sc : Schedule) (key l r : Word) :
    bfRound sc key ((bfRound sc key (l, r)).2 ^^^ key, (bfRound sc key (l, r)).1) = (r, l ^^^ key) := by
  simp only [bfRound, Prod.mk.injEq]
  constructor
  · rw [show l ^^^ key ^^^ key ^^^ key = l ^^^ key by simp, BitVec.xor_assoc, BitVec.xor_self, BitVec.xor_zero]
  · simp

end Sys2Proof.Machine
end

