-- ==== Sys2Proof/Laws/PerInstr.lean ====
section
/-! SUPPORT. Statements about every command as syntax, one lemma per constructor. -/

namespace Sys2Proof.Laws.RoundTrip

/-- The command word of a command (R73, R74) is well formed (R71) and decodes to it (R72). -/
def Statement (i : Instr) : Prop :=
  i.wellFormed = true ∧ (fieldsOf (encode i)).wellFormed = true ∧ decode (encode i) = .ok i

theorem bfInit : Statement .bfInit := ⟨rfl, by decide, by rfl⟩
theorem bfEncrypt : Statement .bfEncrypt := ⟨rfl, by decide, by rfl⟩
theorem bfDecrypt : Statement .bfDecrypt := ⟨rfl, by decide, by rfl⟩
theorem bfEncryptString : Statement .bfEncryptString := ⟨rfl, by decide, by rfl⟩
theorem bfDecryptString : Statement .bfDecryptString := ⟨rfl, by decide, by rfl⟩
theorem mtSeed : Statement .mtSeed := ⟨rfl, by decide, by rfl⟩
theorem mtSeedArray : Statement .mtSeedArray := ⟨rfl, by decide, by rfl⟩
theorem mtRand32 : Statement .mtRand32 := ⟨rfl, by decide, by rfl⟩
theorem mtRandFloat : Statement .mtRandFloat := ⟨rfl, by decide, by rfl⟩
theorem mtRandDouble : Statement .mtRandDouble := ⟨rfl, by decide, by rfl⟩
theorem mtRandRange : Statement .mtRandRange := ⟨rfl, by decide, by rfl⟩
theorem mtSave : Statement .mtSave := ⟨rfl, by decide, by rfl⟩
theorem mtRestore : Statement .mtRestore := ⟨rfl, by decide, by rfl⟩
theorem b64EncLen : Statement .b64EncLen := ⟨rfl, by decide, by rfl⟩
theorem b64Encode : Statement .b64Encode := ⟨rfl, by decide, by rfl⟩
theorem b64DecLen : Statement .b64DecLen := ⟨rfl, by decide, by rfl⟩
theorem b64Decode : Statement .b64Decode := ⟨rfl, by decide, by rfl⟩
theorem bswap1 : Statement .bswap1 := ⟨rfl, by decide, by rfl⟩
theorem bswap2 : Statement .bswap2 := ⟨rfl, by decide, by rfl⟩
theorem bswap4 : Statement .bswap4 := ⟨rfl, by decide, by rfl⟩
theorem bswap8 : Statement .bswap8 := ⟨rfl, by decide, by rfl⟩
theorem fixbo1 : Statement .fixbo1 := ⟨rfl, by decide, by rfl⟩
theorem fixbo2 : Statement .fixbo2 := ⟨rfl, by decide, by rfl⟩
theorem fixbo4 : Statement .fixbo4 := ⟨rfl, by decide, by rfl⟩
theorem fixbo8 : Statement .fixbo8 := ⟨rfl, by decide, by rfl⟩
theorem fixboArray1 : Statement .fixboArray1 := ⟨rfl, by decide, by rfl⟩
theorem fixboArray2 : Statement .fixboArray2 := ⟨rfl, by decide, by rfl⟩
theorem fixboArray4 : Statement .fixboArray4 := ⟨rfl, by decide, by rfl⟩
theorem fixboArray8 : Statement .fixboArray8 := ⟨rfl, by decide, by rfl⟩

end Sys2Proof.Laws.RoundTrip
end

