-- ==== Sys2Proof/Machine/Script.lean ====
section
/-! DEFINITION. The host-script form of 30_encoding.md R77 to R79: mnemonics, script lines and pseudo-instructions,
as the host accesses they stand for. -/

namespace Sys2Proof.Machine

/-- The mnemonic of a command (R77). -/
def mnemonic : Instr → String
  | .bfInit          => "BF_INIT"
  | .bfEncrypt       => "BF_ENCRYPT"
  | .bfDecrypt       => "BF_DECRYPT"
  | .bfEncryptString => "BF_ENCRYPT_STRING"
  | .bfDecryptString => "BF_DECRYPT_STRING"
  | .mtSeed          => "MT_SEED"
  | .mtSeedArray     => "MT_SEED_ARRAY"
  | .mtRand32        => "MT_RAND32"
  | .mtRandFloat     => "MT_RANDFLOAT"
  | .mtRandDouble    => "MT_RANDDOUBLE"
  | .mtRandRange     => "MT_RANDRANGE"
  | .mtSave          => "MT_SAVE"
  | .mtRestore       => "MT_RESTORE"
  | .b64EncLen       => "B64_ENCLEN"
  | .b64Encode       => "B64_ENCODE"
  | .b64DecLen       => "B64_DECLEN"
  | .b64Decode       => "B64_DECODE"
  | .bswap1          => "BSWAP.1"
  | .bswap2          => "BSWAP.2"
  | .bswap4          => "BSWAP.4"
  | .bswap8          => "BSWAP.8"
  | .fixbo1          => "FIXBO.1"
  | .fixbo2          => "FIXBO.2"
  | .fixbo4          => "FIXBO.4"
  | .fixbo8          => "FIXBO.8"
  | .fixboArray1     => "FIXBO_ARRAY.1"
  | .fixboArray2     => "FIXBO_ARRAY.2"
  | .fixboArray4     => "FIXBO_ARRAY.4"
  | .fixboArray8     => "FIXBO_ARRAY.8"

/-- The renamed pseudo-instructions of R79. -/
def pseudoCommand (name : String) : Option Instr :=
  if name = "BSWAP16" then some .bswap2
  else if name = "BSWAP32" then some .bswap4
  else if name = "BSWAP64" then some .bswap8
  else if name = "FIXBO16" then some .fixbo2
  else if name = "FIXBO32" then some .fixbo4
  else if name = "FIXBO64" then some .fixbo8
  else none

/-- A line of a host script (R78, R79). -/
inductive ScriptLine where
  /-- `X<n> = <imm32>` -/
  | setReg (n : Fin 8) (v : Word)
  /-- `<MNEMONIC>` -/
  | command (i : Instr)
  /-- `WAIT` -/
  | wait
  /-- `mem[<addr>] = <hex bytes>`: part of the start state, no bus step. -/
  | launch (a : Word) (bs : List Byte)
  /-- `; text` -/
  | comment
  /-- `CALL <MNEMONIC> a0, a1, …` -/
  | call (i : Instr) (args : List Word)
  /-- `CMDW <imm32>` -/
  | cmdw (w : Word)
deriving DecidableEq, Repr

/-- The host's write of Xn at `CORE_BASE + 0x10 + 4n` (R22). -/
def regWrite (base : Word) (n : Nat) (v : Word) : HostEvent := .busWrite (base + BitVec.ofNat 32 (0x10 + 4 * n)) 4 v

/-- The host's write of a command word to CMD, then WAIT (R78). -/
def cmdWrite (base : Word) (w : Word) : List HostEvent := [.busWrite base 4 w, .wait]

/-- The operand writes of CALL: `X0 = a0`, `X1 = a1`, … (R79). -/
def callWrites (base : Word) : Nat → List Word → List HostEvent
  | _, []      => []
  | n, a :: as => regWrite base n a :: callWrites base (n + 1) as

/-- The host accesses a line stands for (R78, R79). -/
def ScriptLine.accesses (base : Word) : ScriptLine → List HostEvent
  | .setReg n v   => [regWrite base n.val v]
  | .command i    => cmdWrite base (encode i)
  | .wait         => [.wait]
  | .launch _ _   => []
  | .comment      => []
  | .call i args  => callWrites base 0 args ++ cmdWrite base (encode i)
  | .cmdw w       => cmdWrite base w

/-- A line's launch contents in memory (R78). -/
def ScriptLine.place (m : Memory) : ScriptLine → Memory
  | .launch a bs => writeBytes m a.toNat bs
  | .setReg _ _ | .command _ | .wait | .comment | .call _ _ | .cmdw _ => m

/-- The start state of a script: its launch contents in memory and its accesses before the host (R78). -/
def launchScript (lines : List ScriptLine) (s : State) : State :=
  { s with mem := lines.foldl ScriptLine.place s.mem,
           host := s.host ++ (lines.map (ScriptLine.accesses s.cfg.coreBase)).flatten }

end Sys2Proof.Machine
end

