-- ==== Sys2Proof/Certificates/Slice0/Obligations.lean ====
section
/-! DEFINITION. The statements for the provers, each from the numbered rules of spec/. -/

open Sys2Proof Sys2Proof.Machine

/-! ### Encoding (30_encoding.md) -/

/-- R73, R74: the command words of one command of each engine and each byte-order opcode, written out bit by bit. -/
def Obligations.WrittenWordsDecodeToTheirCommands : Prop :=
  decode 0b00000000000000000000000000000001#32 = .ok .bfInit ∧
  decode 0b00000000000000000000000000000101#32 = .ok .bfDecryptString ∧
  decode 0b00000000000000000000000000010101#32 = .ok .mtRandRange ∧
  decode 0b00000000000000000000000000100011#32 = .ok .b64Decode ∧
  decode 0b00000000000000000000001000110000#32 = .ok .bswap2 ∧
  decode 0b00000000000000000000010000110001#32 = .ok .fixbo4 ∧
  decode 0b00000000000000000000100000110010#32 = .ok .fixboArray8

/-- R70 to R74: a word that decodes to a command is that command's word, and that command's word decodes to it. -/
def Obligations.DecodeInvertsEncode : Prop :=
  ∀ (w : Word) (i : Instr), decode w = .ok i ↔ w = encode i

/-- R72, R76: the words that are commands, in terms of the fields `RSV = w / 2^12`, `SZ`, `OP`. -/
def Obligations.LegalWordsAreTheOpcodeMap : Prop :=
  ∀ w : Word, (∃ i, decode w = .ok i) ↔
    (w.toNat / 4096 = 0 ∧
      ((w.toNat % 256 ∈ [0x30, 0x31, 0x32] ∧ w.toNat / 256 % 16 ∈ [1, 2, 4, 8]) ∨
       (w.toNat / 256 % 16 = 0 ∧
        ((0x01 ≤ w.toNat % 256 ∧ w.toNat % 256 ≤ 0x05) ∨ (0x10 ≤ w.toNat % 256 ∧ w.toNat % 256 ≤ 0x17) ∨
         (0x20 ≤ w.toNat % 256 ∧ w.toNat % 256 ≤ 0x23)))))

/-- R76: an illegal word (reserved bits, an unassigned opcode, a size on an opcode that takes none, a size that is
none of 1, 2, 4, 8) raises `ILLEGAL_CMD` when its command's time comes, and changes nothing but STATUS (R72). -/
def Obligations.IllegalWordsRaiseIllegalCmd : Prop :=
  ∀ (s : State) (r : Running), s.running = some r → r.left = 0 →
    (s.cmd.toNat / 4096 ≠ 0 ∨
      (s.cmd.toNat % 256 ∈ [0x30, 0x31, 0x32] ∧ s.cmd.toNat / 256 % 16 ∉ [1, 2, 4, 8]) ∨
      (s.cmd.toNat % 256 ∉ [0x30, 0x31, 0x32] ∧ s.cmd.toNat / 256 % 16 ≠ 0) ∨
      (s.cmd.toNat % 256 = 0 ∨ (0x06 ≤ s.cmd.toNat % 256 ∧ s.cmd.toNat % 256 ≤ 0x0F) ∨
        (0x18 ≤ s.cmd.toNat % 256 ∧ s.cmd.toNat % 256 ≤ 0x1F) ∨
        (0x24 ≤ s.cmd.toNat % 256 ∧ s.cmd.toNat % 256 ≤ 0x2F) ∨ 0x33 ≤ s.cmd.toNat % 256)) →
    ∃ t, step s = .next t ∧ FaultsCleanly .illegalCmd s t

/-! ### Steps and runs (10_state.md, 70_reset_and_hazards.md) -/

/-- R26: at a command's end the step is the meaning of the command that CMD holds. -/
def Obligations.StepRunsTheCommandInProgress : Prop :=
  ∀ (s : State) (r : Running) (i : Instr), s.running = some r → r.left = 0 → r.raced = false →
    decode s.cmd = .ok i → step s = exec i s

/-- R26: every command, from every state, ends: the next state is idle, and CMD, the open parameters and the host's
side are as they were. -/
def Obligations.EveryCommandEndsIdle : Prop :=
  ∀ (i : Instr) (s : State), ∃ t, exec i s = .next t ∧ t.busy = false ∧ KeepsOutside s t

/-- R225: whatever its latency, a running command ends, after as many host polls as it takes, while the host waits or
has nothing to do; and a WAIT does not go by before it. That the poll count is held in the state is the model's choice
(log entry 5). -/
def Obligations.RunningCommandEventuallyEnds : Prop :=
  ∀ (s : State) (r : Running), s.running = some r → (s.host = [] ∨ ∃ rest, s.host = .wait :: rest) →
    ∃ t, Host.Core.run Sys2Proof.core (r.left + 1) s = .next t ∧ t.busy = false ∧ t.host = s.host ∧ t.cmd = s.cmd

/-! ### The invariant -/

/-- Every step keeps the invariant: canonical memory, `mti` in 0..625 (where R196 frees `mti`, this bound is the model's
choice, log entry 9), ERRCODE 0 exactly when ERR is, no command in progress after a fault. -/
def Obligations.StepKeepsTheStateSound : Prop :=
  ∀ s t : State, Inv s → step s = .next t → Inv t

/-- R36: the state after reset meets the invariant, under every choice of the open parameters. -/
def Obligations.ResetStateIsSound : Prop := ∀ c : Config, Inv (State.resetWith c)

/-- R36: the values of the state after reset, under every choice of the open parameters. -/
def Obligations.ResetStateHoldsTheTableValues : Prop :=
  ∀ c : Config, (State.resetWith c).cmd = 0#32 ∧ (State.resetWith c).status = 0#32 ∧
    (∀ r : Fin 8, (State.resetWith c).x[r] = 0#32) ∧ (State.resetWith c).running = none ∧
    (State.resetWith c).keyed = false ∧ (State.resetWith c).gen.mti = 625#32

/-! ### Rules about every command -/

/-- R6: a command of another engine neither writes nor depends on the Blowfish engine's state, and the same of the
Mersenne-Twister engine's. -/
def Obligations.EnginesShareNoState : Prop :=
  ∀ (i : Instr) (s : State), ∃ t, exec i s = .next t ∧
    (engineOf i ≠ .blowfish → KeepsBlowfish s t ∧
      ∀ (sc : Schedule) (k : Bool),
        exec i { s with sched := sc, keyed := k } = .next { t with sched := sc, keyed := k }) ∧
    (engineOf i ≠ .mersenne → KeepsMersenne s t ∧
      ∀ g : Generator, exec i { s with gen := g } = .next { t with gen := g })

/-- R25: a command writes no X register but the result registers of its rule, and none when it ends by a fault. -/
def Obligations.CommandsWriteOnlyTheirResultRegisters : Prop :=
  ∀ (i : Instr) (s t : State), exec i s = .next t →
    KeepsXBut (resultRegs i) s t ∧ (s.err = false → t.err = true → t.x = s.x)

/-- R51: no byte outside a command's write ranges changes, however the command ends. R51 fixes them but for a B64_DECODE
that ends by a fault, whose returned length R51 does not give: that its reach is then the prefix of the legal groups is
the model's choice (log entry 10). -/
def Obligations.CommandsWriteOnlyTheirWriteRanges : Prop :=
  ∀ (i : Instr) (s t : State), exec i s = .next t →
    ∀ a : Nat, (∀ q ∈ writeRanges i s, q.has a = false) → readByte t.mem a = readByte s.mem a

/-- R51: a command's registers, fault and engine state, and the bytes that it writes when it ends without a fault,
depend on no byte outside its read ranges. -/
def Obligations.CommandsDependOnlyOnTheirReadRanges : Prop :=
  ∀ (i : Instr) (s : State) (m : Memory), Memory.wf s.mem = true → Memory.wf m = true →
    (∀ q ∈ readRanges i s, ∀ a : Nat, q.has a = true → readByte m a = readByte s.mem a) →
    ∃ t u, exec i s = .next t ∧ exec i { s with mem := m } = .next u ∧ u.x = t.x ∧ u.sched = t.sched ∧
      u.keyed = t.keyed ∧ u.gen = t.gen ∧ u.err = t.err ∧ u.errcode = t.errcode ∧
      (t.err = false → ∀ q ∈ writeRanges i s, ∀ a : Nat, q.has a = true → readByte u.mem a = readByte t.mem a)

/-- R28, R120: no command but BF_INIT that ends normally writes the schedule or `KEYED`. -/
def Obligations.OnlyBfInitWritesTheSchedule : Prop :=
  ∀ (i : Instr) (s t : State), i ≠ .bfInit → s.err = false → exec i s = .next t → t.err = false →
    KeepsBlowfish s t

/-- R196, for a command: a fault of any code but `BUS_ERROR`, `BAD_B64_CHAR` and `BAD_STATE_BLOB` changes nothing but
STATUS; after one of those three the X registers, the memory outside the write ranges and the other engines are as
they were. That the write range of a B64_DECODE that faults is the prefix of its legal groups, so that the destination
past them is kept, is the model's choice (log entry 10). -/
def Obligations.FaultsLeaveTheRestUnchanged : Prop :=
  ∀ (i : Instr) (s t : State), s.err = false → exec i s = .next t → t.err = true →
    t.x = s.x ∧ KeepsOutside s t ∧
    (t.errcode ≠ 0x07#8 ∧ t.errcode ≠ 0x0A#8 ∧ t.errcode ≠ 0x0D#8 →
      t.mem = s.mem ∧ KeepsBlowfish s t ∧ KeepsMersenne s t) ∧
    (∀ a : Nat, (∀ q ∈ writeRanges i s, q.has a = false) → readByte t.mem a = readByte s.mem a) ∧
    (engineOf i ≠ .blowfish → KeepsBlowfish s t) ∧ (engineOf i ≠ .mersenne → KeepsMersenne s t)

/-! ### Faults and STATUS (60_exceptions.md, 10_state.md) -/

/-- R198: with ERR set and no reset arriving, ERR and ERRCODE stay, no command starts, CMD and both engines stay; the
host still writes and reads X and reads CMD and STATUS. -/
def Obligations.FaultStaysUntilReset : Prop :=
  ∀ (s t : State) (e : HostEvent) (rest : List HostEvent), s.err = true → s.running = none → s.host = e :: rest →
    e ≠ .reset → step s = .next t →
    t.err = true ∧ t.errcode = s.errcode ∧ t.running = none ∧ t.cmd = s.cmd ∧ KeepsBlowfish s t ∧
      KeepsMersenne s t ∧
      (∀ (r : Fin 8) (v : Word), e = regWrite s.cfg.coreBase r.val v → t.x = s.x.set r v) ∧
      (∀ r : Fin 8, e = .busRead (s.cfg.coreBase + BitVec.ofNat 32 (0x10 + 4 * r.val)) 4 → t.readData = s.x[r]) ∧
      (e = .busRead s.cfg.coreBase 4 → t.readData = s.cmd) ∧
      (e = .busRead (s.cfg.coreBase + 4#32) 4 → t.readData = s.status)

/-- R24: STATUS as one number: ERRCODE in 15:8, MT_SEEDED, BF_KEYED, ERR and BUSY in bits 3 to 0, every other bit 0. -/
def Obligations.StatusIsItsFields : Prop :=
  ∀ s : State, s.status.toNat =
    256 * s.errcode.toNat + 8 * s.mtSeeded.toNat + 4 * s.keyed.toNat + 2 * s.err.toNat + s.busy.toNat

/-- R33: STATUS.MT_SEEDED is 1 exactly when `mti != 625`. -/
def Obligations.SeededBitFollowsTheCursor : Prop :=
  ∀ s : State, s.status.getLsbD 3 = true ↔ s.gen.mti ≠ 625#32

/-! ### The register window (10_state.md R22, R23, R25; 60_exceptions.md R192) -/

/-- R23: a write of CMD starts a command when BUSY and ERR are 0, is ignored when ERR is 1 and BUSY is 0, and is a
`BUSY_VIOLATION` that leaves CMD as it was when BUSY is 1; a read of CMD returns the last word stored. The violation ends
the running command with the effects of R192 and R196. What is kept then rests on the model's choices: a raced command's
result registers and a raced B64_DECODE's whole destination are not kept (R64 read with R196, log entry 11), and an
unraced B64_DECODE's destination past its legal groups is (log entry 10). -/
def Obligations.CmdWriteStartsIgnoresOrViolates : Prop :=
  ∀ (s : State) (w : Word) (rest : List HostEvent),
    (HostMoves s (.busWrite s.cfg.coreBase 4 w) rest → s.running = none → s.err = false →
      ∃ n, step s = .next { s with
        cmd := w, running := some { left := n, raced := false }, host := rest, ticket := s.ticket + 1 }) ∧
    (HostMoves s (.busWrite s.cfg.coreBase 4 w) rest → s.running = none → s.err = true →
      step s = .next { s with host := rest }) ∧
    (HostMoves s (.busWrite s.cfg.coreBase 4 w) rest → s.busy = true →
      ∃ t, step s = .next t ∧ t.host = rest ∧ AbortsCommand .busyViolation s t) ∧
    (HostMoves s (.busRead s.cfg.coreBase 4) rest →
      ∃ t, step s = .next t ∧ t.readData = s.cmd ∧ t.cmd = s.cmd ∧ t.err = s.err)

/-- R25: the host's write of Xi while idle sets Xi alone; while BUSY it is a `BUSY_VIOLATION`, is dropped, and ends
the command with its write ranges spoilt and the other engines untouched (R192, R196); a read while idle returns Xi.
What is kept then rests on the model's choices: a raced command's result registers and a raced B64_DECODE's whole
destination are not kept (R64 read with R196, log entry 11), and an unraced B64_DECODE's destination past its legal groups
is (log entry 10). -/
def Obligations.HostWritesOperandsOnlyWhileIdle : Prop :=
  ∀ (s : State) (r : Fin 8) (v : Word) (rest : List HostEvent),
    (HostMoves s (regWrite s.cfg.coreBase r.val v) rest → s.running = none →
      step s = .next { s with x := s.x.set r v, host := rest }) ∧
    (HostMoves s (regWrite s.cfg.coreBase r.val v) rest → s.busy = true →
      ∃ t, step s = .next t ∧ t.host = rest ∧ AbortsCommand .busyViolation s t) ∧
    (HostMoves s (.busRead (s.cfg.coreBase + BitVec.ofNat 32 (0x10 + 4 * r.val)) 4) rest → s.running = none →
      step s = .next { s with readData := s.x[r], host := rest })

/-- R22, R192: a write of STATUS or a reserved offset and every access of another width or alignment raise
`HOST_ACCESS`; while idle they change no register, and while BUSY they end the running command as by a fault (C9); a read
of a reserved offset returns 0. That a write of CMD or an X register of the wrong form is `HOST_ACCESS` while BUSY too is
the model's choice (log entry 23), and so are the limits of what an abort keeps, as in the statements about CMD and X
writes (log entries 10 and 11). -/
def Obligations.BadWindowAccessesRaiseHostAccess : Prop :=
  ∀ (s : State) (off bytes : Nat) (v : Word) (rest : List HostEvent), off < 64 → 0 < bytes →
    (HostMoves s (.busWrite (s.cfg.coreBase + BitVec.ofNat 32 off) bytes v) rest →
      (bytes ≠ 4 ∨ off % 4 ≠ 0 ∨ off ∈ [0x04, 0x08, 0x0C, 0x30, 0x34, 0x38, 0x3C]) →
      (s.running = none → step s = .next { s with
        host := rest, err := true, errcode := (if s.err then s.errcode else 0x02#8) }) ∧
      (s.busy = true → ∃ t, step s = .next t ∧ t.host = rest ∧ t.readData = s.readData ∧
        AbortsCommand .hostAccess s t)) ∧
    (HostMoves s (.busRead (s.cfg.coreBase + BitVec.ofNat 32 off) bytes) rest → (bytes ≠ 4 ∨ off % 4 ≠ 0) →
      (s.running = none → ∃ any, step s = .next { s with
        host := rest, err := true, errcode := (if s.err then s.errcode else 0x02#8), readData := any,
        ticket := s.ticket + 1 }) ∧
      (s.busy = true → ∃ t, step s = .next t ∧ t.host = rest ∧ AbortsCommand .hostAccess s t)) ∧
    (HostMoves s (.busRead (s.cfg.coreBase + BitVec.ofNat 32 off) bytes) rest → bytes = 4 →
      off ∈ [0x08, 0x0C, 0x30, 0x34, 0x38, 0x3C] →
      (s.running = none → step s = .next { s with host := rest, readData := 0#32 }) ∧
      (s.busy = true → ∃ t, step s = .next t ∧ t.readData = 0#32 ∧ t.busy = true ∧ t.err = s.err ∧ t.x = s.x ∧
        t.mem = s.mem))

/-- R216, with R215's values: a reset, of an idle core or of a running command, leaves CMD, STATUS, X0 to X7 zero,
`KEYED = 0` and `mti = 625`; it writes no memory but the write ranges of the command it aborts, and none where the word in
progress is illegal. The write range of an aborted B64_DECODE is the model's choice: the prefix of its legal groups (log
entry 10), and its whole destination once its characters were raced (log entry 11). -/
def Obligations.ResetAbortsAndClears : Prop :=
  ∀ (s : State) (rest : List HostEvent), HostMoves s .reset rest →
    ∃ t, step s = .next t ∧ t.cmd = 0#32 ∧ t.status = 0#32 ∧ (∀ r : Fin 8, t.x[r] = 0#32) ∧ t.running = none ∧
      t.keyed = false ∧ t.gen.mti = 625#32 ∧ t.cfg = s.cfg ∧ t.host = rest ∧
      (s.running = none → t.mem = s.mem) ∧
      (∀ i, decode s.cmd = .ok i →
        ∀ a : Nat, (∀ q ∈ openRanges i s, q.has a = false) → readByte t.mem a = readByte s.mem a) ∧
      (∀ e, decode s.cmd = .error e → t.mem = s.mem)

/-- R64: a raced command, whether it ends normally or by a fault of its own, raises no fault for the race, and what
the race spoils is its ranges, its result registers and, after a normal end, the tables that BF_INIT, MT_SEED_ARRAY and
MT_RESTORE load: all other memory, registers and state are as the command leaves them. That loaded tables are spoilt, and
that its faults are those of the memory at its end, is the model's choice (log entry 11), and so is the write range of a
B64_DECODE that faults or whose characters were raced (log entries 10 and 11). -/
def Obligations.RaceSpoilsRangesResultsAndLoadedTables : Prop :=
  ∀ (s u : State) (r : Running) (i : Instr), s.running = some r → r.left = 0 → r.raced = true →
    decode s.cmd = .ok i → exec i s = .next u →
    ∃ t, step s = .next t ∧ t.err = u.err ∧ t.errcode = u.errcode ∧ t.busy = false ∧ KeepsOutside s t ∧
      KeepsXBut (resultRegs i) s t ∧
      (∀ a : Nat, (∀ q ∈ openRanges i s, q.has a = false) → readByte t.mem a = readByte s.mem a) ∧
      t.keyed = u.keyed ∧ (u.err = true ∨ i ≠ .bfInit → t.sched = u.sched) ∧
      (u.err = true ∨ (i ≠ .mtSeedArray ∧ i ≠ .mtRestore) → t.gen = u.gen) ∧
      (i ≠ .mtRestore → t.gen.mti = u.gen.mti)

/-! ### Byte order (41_byteorder.md) -/

/-- R90: byte `k` of `REV(n, v)` is byte `n-1-k` of `v`, the source's recipe for 8 bytes gives the same, and REV undoes
itself. -/
def Obligations.RevReversesBytes : Prop :=
  ∀ (n v : Nat), n ∈ [1, 2, 4, 8] → v < 256 ^ n →
    rev n v < 256 ^ n ∧ (∀ k < n, rev n v / 256 ^ k % 256 = v / 256 ^ (n - 1 - k) % 256) ∧
    (n = 8 → rev 8 v = rev 4 (v % 2 ^ 32) * 2 ^ 32 + rev 4 (v / 2 ^ 32)) ∧ rev n (rev n v) = v

/-- R91: BSWAP.sz reverses the low sz bytes of X0, clears the rest of X0, and for size 8 reverses the pair; nothing
else changes, on either host. -/
def Obligations.BswapReversesTheRegister : Prop :=
  (encode .bswap1 = 0x130#32 ∧ encode .bswap2 = 0x230#32 ∧ encode .bswap4 = 0x430#32 ∧ encode .bswap8 = 0x830#32) ∧
  (∀ p ∈ [(Instr.bswap1, 1), (Instr.bswap2, 2), (Instr.bswap4, 4)], ∀ s : State,
    ∃ t, exec p.1 s = .next t ∧ WritesOnlyX [0] s t ∧
      ∀ k < 4, byteOf t.x[0] k = if k < p.2 then byteOf s.x[0] (p.2 - 1 - k) else 0#8) ∧
  (∀ s : State, ∃ t, exec .bswap8 s = .next t ∧ WritesOnlyX [0, 1] s t ∧
    ∀ k < 4, byteOf t.x[0] k = byteOf s.x[1] (3 - k) ∧ byteOf t.x[1] k = byteOf s.x[0] (3 - k))

/-- R92: FIXBO.sz is BSWAP.sz on a big-endian host; on a little-endian one it keeps the operand and clears the bits of
X0 above it. -/
def Obligations.FixboSwapsOnlyOnABigEndianHost : Prop :=
  (encode .fixbo1 = 0x131#32 ∧ encode .fixbo2 = 0x231#32 ∧ encode .fixbo4 = 0x431#32 ∧ encode .fixbo8 = 0x831#32) ∧
  (∀ p ∈ [(Instr.fixbo1, Instr.bswap1, 1), (Instr.fixbo2, Instr.bswap2, 2), (Instr.fixbo4, Instr.bswap4, 4)],
    ∀ s : State,
      (s.cfg.hostBigEndian = true → exec p.1 s = exec p.2.1 s ∧ ∃ t, exec p.1 s = .next t) ∧
      (s.cfg.hostBigEndian = false → ∃ t, exec p.1 s = .next t ∧ WritesOnlyX [0] s t ∧
        t.x[0].toNat = s.x[0].toNat % 256 ^ p.2.2)) ∧
  (∀ s : State,
    (s.cfg.hostBigEndian = true → exec .fixbo8 s = exec .bswap8 s ∧ ∃ t, exec .fixbo8 s = .next t) ∧
    (s.cfg.hostBigEndian = false → ∃ t, exec .fixbo8 s = .next t ∧ WritesOnlyX [] s t))

/-- R94: FIXBO_ARRAY.sz checks the range, touches nothing on a little-endian host or for size 1, and else reverses every
element in place; a refused byte is `BUS_ERROR`. -/
def Obligations.FixboArrayReversesEveryElement : Prop :=
  ∀ p ∈ [(Instr.fixboArray1, 1), (Instr.fixboArray2, 2), (Instr.fixboArray4, 4), (Instr.fixboArray8, 8)],
  ∀ (s : State) (start fin : Nat), start = s.x[0].toNat → fin = s.x[1].toNat →
    encode p.1 = BitVec.ofNat 32 (0x32 + 256 * p.2) ∧
    (fin < start → ∃ t, exec p.1 s = .next t ∧ FaultsCleanly .badBuffer s t) ∧
    (start ≤ fin → (fin - start) % p.2 ≠ 0 → ∃ t, exec p.1 s = .next t ∧ FaultsCleanly .badBuffer s t) ∧
    (start ≤ fin → (fin - start) % p.2 = 0 → s.cfg.hostBigEndian = false ∨ p.2 = 1 →
      ∃ t, exec p.1 s = .next t ∧ WritesOnlyX [] s t) ∧
    (start ≤ fin → (fin - start) % p.2 = 0 → s.cfg.hostBigEndian = true → 1 < p.2 → Memory.wf s.mem = true →
      Readable s start (fin - start) → Writable s start (fin - start) →
      ∃ t, exec p.1 s = .next t ∧ WritesXAndRange [] { base := start, len := fin - start } s t ∧
        ∀ e k, e < (fin - start) / p.2 → k < p.2 →
          readByte t.mem (start + p.2 * e + k) = readByte s.mem (start + p.2 * e + (p.2 - 1 - k))) ∧
    (start ≤ fin → (fin - start) % p.2 = 0 → s.cfg.hostBigEndian = true → 1 < p.2 →
      Refuses s start (fin - start) false ∨ Refuses s start (fin - start) true →
      ∃ t, exec p.1 s = .next t ∧ FaultsInMemory .busError { base := start, len := fin - start } s t ∧
        KeepsBlowfish s t ∧ KeepsMersenne s t)

/-! ### Base64 (42_base64.md) -/

/-- R100, R101: the alphabet is the 65 bytes of R100's string and pad; the inverse map is its inverse, `=` is the pad,
and every other byte is invalid. -/
def Obligations.InverseMapInvertsTheAlphabet : Prop :=
  (∀ v : BitVec 6, alpha v = BitVec.ofNat 8
    ("ABCDEFGHIJKLMNOPQRSTUVWXYZabcdefghijklmnopqrstuvwxyz0123456789+/".toList.getD v.toNat '=').toNat) ∧
  padChar = 0x3D#8 ∧
  (∀ (c : Byte) (v : BitVec 6), inv c = .data v ↔ alpha v = c) ∧ (∀ c : Byte, inv c = .pad ↔ c = 0x3D#8) ∧
    (∀ c : Byte, inv c = .invalid ↔ c ≠ 0x3D#8 ∧ ∀ v : BitVec 6, alpha v ≠ c)

/-- R102: B64_ENCLEN gives the least multiple of 4 that is at least 4n/3, that is `4·ceil(n/3)`, and faults
`LENGTH_OVERFLOW` exactly from n = 3221225470 on. -/
def Obligations.EncLenIsFourThirdsRoundedUp : Prop :=
  encode .b64EncLen = 0x20#32 ∧
  ∀ s : State,
    (s.x[0].toNat < 3221225470 → ∃ t g, exec .b64EncLen s = .next t ∧ WritesOnlyX [0] s t ∧
      t.x[0].toNat = 4 * g ∧ s.x[0].toNat ≤ 3 * g ∧ 3 * g < s.x[0].toNat + 3) ∧
    (3221225470 ≤ s.x[0].toNat → ∃ t, exec .b64EncLen s = .next t ∧ FaultsCleanly .lengthOverflow s t)

/-- R104: B64_DECLEN gives `3·ceil(n/4)` for every n, without a fault. -/
def Obligations.DecLenIsThreeQuartersRoundedUp : Prop :=
  encode .b64DecLen = 0x22#32 ∧
  ∀ s : State, ∃ t g, exec .b64DecLen s = .next t ∧ WritesOnlyX [0] s t ∧
    t.x[0].toNat = 3 * g ∧ s.x[0].toNat ≤ 4 * g ∧ 4 * g < s.x[0].toNat + 4

/-- R103: B64_ENCODE's checks in order, its characters group by group as the rule's formulas give them, and a refused
byte. -/
def Obligations.EncodeWritesTheGroups : Prop :=
  encode .b64Encode = 0x21#32 ∧
  ∀ (s : State) (dest src n : Nat), dest = s.x[0].toNat → src = s.x[1].toNat → n = s.x[2].toNat →
    (4294967295 < encLen n → ∃ t, exec .b64Encode s = .next t ∧ FaultsCleanly .lengthOverflow s t) ∧
    (encLen n ≤ 4294967295 → ¬ EncodeRangesOk s →
      ∃ t, exec .b64Encode s = .next t ∧ FaultsCleanly .badBuffer s t) ∧
    (encLen n ≤ 4294967295 → EncodeRangesOk s → Refuses s src n false ∨ Refuses s dest (encLen n) true →
      ∃ t, exec .b64Encode s = .next t ∧ FaultsInMemory .busError { base := dest, len := encLen n } s t ∧
        KeepsBlowfish s t ∧ KeepsMersenne s t) ∧
    (EncodeReady s → Memory.wf s.mem = true →
      ∃ t, exec .b64Encode s = .next t ∧ WritesXAndRange [0] { base := dest, len := encLen n } s t ∧
        t.x[0].toNat = encLen n ∧
        ∀ g r b0 b1 b2, 3 * g < n → r = min 3 (n - 3 * g) → b0 = readByte s.mem (src + 3 * g) →
          b1 = (if 2 ≤ r then readByte s.mem (src + 3 * g + 1) else 0#8) →
          b2 = (if 3 ≤ r then readByte s.mem (src + 3 * g + 2) else 0#8) →
          readByte t.mem (dest + 4 * g) = alpha ((b0 >>> 2).setWidth 6) ∧
          readByte t.mem (dest + 4 * g + 1) = alpha ((((b0 &&& 0x03#8) <<< 4) ||| (b1 >>> 4)).setWidth 6) ∧
          readByte t.mem (dest + 4 * g + 2) =
            (if 2 ≤ r then alpha ((((b1 &&& 0x0F#8) <<< 2) ||| (b2 >>> 6)).setWidth 6) else 0x3D#8) ∧
          readByte t.mem (dest + 4 * g + 3) = (if 3 ≤ r then alpha ((b2 &&& 0x3F#8).setWidth 6) else 0x3D#8))

/-- R105 to R107: B64_DECODE of an input whose groups are all legal: the count, and the kept bytes as the rule's
formulas give them; no other byte is written. -/
def Obligations.DecodeWritesTheKeptBytes : Prop :=
  ∀ (s : State) (dest src n : Nat), dest = s.x[0].toNat → src = s.x[1].toNat → n = s.x[2].toNat →
    DecodeRangesOk s → Readable s src n → (∀ g < groupCount s, GroupLegalAt s g) →
    (∀ k < decodedCount s, memAdmit s.cfg (dest + k) true = true) → Memory.wf s.mem = true →
    ∃ t, exec .b64Decode s = .next t ∧ WritesXAndRange [0] { base := dest, len := decodedCount s } s t ∧
      t.x[0].toNat = decodedCount s ∧
      ∀ g v0 v1 v2 v3, v0 = (sextetOf (charAt s (4 * g))).setWidth 8 → v1 = (sextetOf (charAt s (4 * g + 1))).setWidth 8 →
        v2 = (sextetOf (charAt s (4 * g + 2))).setWidth 8 → v3 = (sextetOf (charAt s (4 * g + 3))).setWidth 8 →
        (3 * g < decodedCount s → readByte t.mem (dest + 3 * g) = (v0 <<< 2) ||| (v1 >>> 4)) ∧
        (3 * g + 1 < decodedCount s → readByte t.mem (dest + 3 * g + 1) = (v1 <<< 4) ||| (v2 >>> 2)) ∧
        (3 * g + 2 < decodedCount s → readByte t.mem (dest + 3 * g + 2) = (v2 <<< 6) ||| v3)

/-- R107's faults: bad ranges before any access; a refused source byte, even after an illegal group (the model's reading
of R107, log entry 17); a refused destination byte of what the legal groups keep (R57); the first illegal group (R106),
when the groups before it could be written. That the destination past the kept bytes stays after a refused one is the
model's choice (log entry 10). -/
def Obligations.DecodeFaultsOnRangesAndIllegalGroups : Prop :=
  ∀ (s : State) (dest src n : Nat), dest = s.x[0].toNat → src = s.x[1].toNat → n = s.x[2].toNat →
    (¬ DecodeRangesOk s → ∃ t, exec .b64Decode s = .next t ∧ FaultsCleanly .badBuffer s t) ∧
    (DecodeRangesOk s → Refuses s src n false →
      ∃ t, exec .b64Decode s = .next t ∧ FaultsInMemory .busError { base := dest, len := decLen n } s t ∧
        KeepsBlowfish s t ∧ KeepsMersenne s t) ∧
    (DecodeRangesOk s → Readable s src n → (∀ g < groupCount s, GroupLegalAt s g) →
      Refuses s dest (decodedCount s) true →
      ∃ t, exec .b64Decode s = .next t ∧ FaultsInMemory .busError { base := dest, len := decodedCount s } s t ∧
        KeepsBlowfish s t ∧ KeepsMersenne s t) ∧
    (∀ g, DecodeRangesOk s → Readable s src n → g < groupCount s → (∀ h < g, GroupLegalAt s h) →
      ¬ GroupLegalAt s g →
      (Refuses s dest (3 * g) true →
        ∃ t, exec .b64Decode s = .next t ∧ FaultsInMemory .busError { base := dest, len := decLen n } s t ∧
          KeepsBlowfish s t ∧ KeepsMersenne s t) ∧
      ((∀ k < 3 * g, memAdmit s.cfg (dest + k) true = true) →
        ∃ t, exec .b64Decode s = .next t ∧ FaultsInMemory .badB64Char { base := dest, len := decLen n } s t ∧
          KeepsBlowfish s t ∧ KeepsMersenne s t))

/-- R108: the count of a B64_DECODE that ends normally is at most DL(n) and at least DL(n) - 2. -/
def Obligations.DecodedCountWithinTwoOfTheHint : Prop :=
  ∀ s t : State, s.err = false → 0 < s.x[2].toNat → exec .b64Decode s = .next t → t.err = false →
    t.x[0].toNat ≤ decLen s.x[2].toNat ∧ decLen s.x[2].toNat ≤ t.x[0].toNat + 2

/-- R109: B64_ENCODE and then B64_DECODE of its output give the bytes and their number back. -/
def Obligations.DecodeUndoesEncode : Prop :=
  ∀ (s t u : State) (dest2 : Word), EncodeReady s → Memory.wf s.mem = true → exec .b64Encode s = .next t →
    u = { t with x := ((t.x.set 0 dest2).set 1 s.x[0]).set 2 (BitVec.ofNat 32 (encLen s.x[2].toNat)) } →
    DecodeRangesOk u → Readable u s.x[0].toNat (encLen s.x[2].toNat) →
    Writable u dest2.toNat (decLen (encLen s.x[2].toNat)) →
    ∃ v, exec .b64Decode u = .next v ∧ v.err = u.err ∧ v.x[0] = s.x[2] ∧
      ∀ k < s.x[2].toNat, readByte v.mem (dest2.toNat + k) = readByte s.mem (s.x[1].toNat + k)

/-! ### Blowfish (43_blowfish.md) -/

/-- R121, R122: block encryption as the sequence of its 16 rounds, F by its formula, and the whitening that pairs
`P[16]` with the right half. -/
def Obligations.EncryptionIsSixteenRounds : Prop :=
  ∀ (sc : Schedule) (xl xr : Word), ∃ (L R F : Nat → Word), L 0 = xl ∧ R 0 = xr ∧
    (∀ i < 16,
      F i = ((sc.box 0 ((L i ^^^ sc.pw i).extractLsb' 24 8) + sc.box 1 ((L i ^^^ sc.pw i).extractLsb' 16 8)) ^^^
          sc.box 2 ((L i ^^^ sc.pw i).extractLsb' 8 8)) + sc.box 3 ((L i ^^^ sc.pw i).extractLsb' 0 8) ∧
      L (i + 1) = R i ^^^ F i ∧ R (i + 1) = L i ^^^ sc.pw i) ∧
    bfE sc xl xr = (R 16 ^^^ sc.pw 17, L 16 ^^^ sc.pw 16)

/-- R123: block decryption as the sequence of its 16 rounds, from `P[17]` down to `P[2]`. -/
def Obligations.DecryptionRunsTheKeysBackwards : Prop :=
  ∀ (sc : Schedule) (xl xr : Word), ∃ L R : Nat → Word, L 0 = xl ∧ R 0 = xr ∧
    (∀ i < 16, L (i + 1) = R i ^^^ bfF sc (L i ^^^ sc.pw (17 - i)) ∧ R (i + 1) = L i ^^^ sc.pw (17 - i)) ∧
    bfD sc xl xr = (R 16 ^^^ sc.pw 0, L 16 ^^^ sc.pw 1)

/-- R124: for every schedule, decryption undoes encryption and encryption undoes decryption. -/
def Obligations.DecryptionUndoesEncryption : Prop :=
  ∀ (sc : Schedule) (xl xr : Word),
    bfD sc (bfE sc xl xr).1 (bfE sc xl xr).2 = (xl, xr) ∧ bfE sc (bfD sc xl xr).1 (bfD sc xl xr).2 = (xl, xr)

/-- R127: word `i` of the mixed P is the initial word XOR four key bytes taken cyclically, the first most significant;
the S-boxes are not touched. -/
def Obligations.KeyMixesCyclicallyIntoP : Prop :=
  ∀ (key : List Byte) (sc : Schedule), key ≠ [] →
    (mixKey key sc).s = sc.s ∧
    ∀ i < 18, (mixKey key sc).pw i = sc.pw i ^^^
      ((key.getD (4 * i % key.length) 0#8 ++ key.getD ((4 * i + 1) % key.length) 0#8 ++
        key.getD ((4 * i + 2) % key.length) 0#8 ++ key.getD ((4 * i + 3) % key.length) 0#8 : BitVec 32))

/-- R128, R129: the fill is one chain of 521 encryptions, each with the schedule that the one before it left, the
first 9 filling P pairwise and the others the four S-boxes in order. -/
def Obligations.FillIsOneChainOfEncryptions : Prop :=
  ∀ sc : Schedule, ∃ f : Nat → Fill, f 0 = { sc := sc, l := 0#32, r := 0#32 } ∧
    (∀ m < 521,
      ((f (m + 1)).l, (f (m + 1)).r) = bfE (f m).sc (f m).l (f m).r ∧
      (m < 9 → (f (m + 1)).sc =
        ((f m).sc.setP (2 * m) (f (m + 1)).l).setP (2 * m + 1) (f (m + 1)).r) ∧
      (∀ k : Fin 4, 9 + 128 * k.val ≤ m → m < 9 + 128 * (k.val + 1) → (f (m + 1)).sc =
        ((f m).sc.setS k (2 * (m - 9 - 128 * k.val)) (f (m + 1)).l).setS k
          (2 * (m - 9 - 128 * k.val) + 1) (f (m + 1)).r)) ∧
    fillTables sc = (f 521).sc

/-- R131: BF_INIT's checks, and the schedule it builds from the key alone; the initial tables (R125) are one run of 1042
words with the spot values, XOR and sum of R152. -/
def Obligations.BfInitBuildsTheSchedule : Prop :=
  encode .bfInit = 0x01#32 ∧
  (∃ ws : List Word, ws.length = 1042 ∧ (∀ i < 18, initialSchedule.pw i = ws.getD i 0#32) ∧
    (∀ (k : Fin 4) (b : Byte), initialSchedule.box k b = ws.getD (18 + 256 * k.val + b.toNat) 0#32) ∧
    ws.foldl (· ^^^ ·) 0#32 = 0x6FFA520A#32 ∧ ws.foldl (· + ·) 0#32 = 0x6BBF03AC#32) ∧
  (initialSchedule.pw 0 = 0x243F6A88#32 ∧ initialSchedule.pw 1 = 0x85A308D3#32 ∧
    initialSchedule.pw 17 = 0x8979FB1B#32 ∧ initialSchedule.box 0 0x00#8 = 0xD1310BA6#32 ∧
    initialSchedule.box 0 0xFF#8 = 0x6E85076A#32 ∧ initialSchedule.box 1 0x00#8 = 0x4B7A70E9#32 ∧
    initialSchedule.box 2 0x00#8 = 0xE93D5A68#32 ∧ initialSchedule.box 3 0x00#8 = 0x3A39CE37#32 ∧
    initialSchedule.box 3 0xFF#8 = 0x3AC372E6#32) ∧
  ∀ (s : State) (addr len : Nat), addr = s.x[0].toNat → len = s.x[1].toNat →
    (len = 0 ∨ 56 < len → ∃ t, exec .bfInit s = .next t ∧ FaultsCleanly .badKeyLen s t) ∧
    (1 ≤ len → len ≤ 56 → ¬ InSpace addr len → ∃ t, exec .bfInit s = .next t ∧ FaultsCleanly .badBuffer s t) ∧
    (1 ≤ len → len ≤ 56 → InSpace addr len → Refuses s addr len false →
      ∃ t, exec .bfInit s = .next t ∧ EntersFault .busError s t ∧ t.x = s.x ∧ KeepsMemory s t ∧
        KeepsMersenne s t) ∧
    (1 ≤ len → len ≤ 56 → Readable s addr len →
      ∃ t, exec .bfInit s = .next t ∧ EndsNormally s t ∧ KeepsXBut [] s t ∧ KeepsMersenne s t ∧ KeepsMemory s t ∧
        t.keyed = true ∧
        t.sched = fillTables (mixKey ((List.range len).map (fun k => readByte s.mem (addr + k))) initialSchedule))

/-- R131, corner case: a key repeated any number of times gives the key's own schedule. -/
def Obligations.RepeatedKeyGivesTheSameSchedule : Prop :=
  ∀ (key : List Byte) (n : Nat), key ≠ [] → keySchedule (List.replicate (n + 1) key).flatten = keySchedule key

/-- R133, R134: when keyed, the block commands put X0 and X1 through the cipher and its inverse; BF_DECRYPT after
BF_ENCRYPT restores them. -/
def Obligations.BlockCommandsCipherTheRegisters : Prop :=
  encode .bfEncrypt = 0x02#32 ∧ encode .bfDecrypt = 0x03#32 ∧
  ∀ s : State,
    (s.keyed = false → (∃ t, exec .bfEncrypt s = .next t ∧ FaultsCleanly .notKeyed s t) ∧
      ∃ t, exec .bfDecrypt s = .next t ∧ FaultsCleanly .notKeyed s t) ∧
    (s.keyed = true →
      (∃ t, exec .bfEncrypt s = .next t ∧ WritesOnlyX [0, 1] s t ∧
        (t.x[0], t.x[1]) = bfE s.sched s.x[0] s.x[1] ∧
        ∃ u, exec .bfDecrypt t = .next u ∧ u.x = s.x) ∧
      (∃ t, exec .bfDecrypt s = .next t ∧ WritesOnlyX [0, 1] s t ∧
        (t.x[0], t.x[1]) = bfD s.sched s.x[0] s.x[1]))

/-- R136, R137, with R135: the string commands cipher every 8-byte chunk alone, from the source to the destination, in
place too, and return the length in X3. -/
def Obligations.StringCommandsCipherEveryChunk : Prop :=
  ∀ p ∈ [(Instr.bfEncryptString, bfE), (Instr.bfDecryptString, bfD)], ∀ (s : State) (src len dst : Nat),
    src = s.x[0].toNat → len = s.x[1].toNat → dst = s.x[2].toNat → StringReady s → Memory.wf s.mem = true →
    ∃ t, exec p.1 s = .next t ∧ WritesXAndRange [3] { base := dst, len := len } s t ∧ t.x[3] = s.x[1] ∧
      ∀ k < len / 8,
        (halfAt t (dst + 8 * k), halfAt t (dst + 8 * k + 4)) =
          p.2 s.sched (halfAt s (src + 8 * k)) (halfAt s (src + 8 * k + 4))

/-- R130, for the string commands: the key, then the length, then the ranges, then the accesses. -/
def Obligations.StringCommandsCheckInOrder : Prop :=
  ∀ i ∈ [Instr.bfEncryptString, Instr.bfDecryptString], ∀ s : State,
    (s.keyed = false → ∃ t, exec i s = .next t ∧ FaultsCleanly .notKeyed s t) ∧
    (s.keyed = true → s.x[1].toNat % 8 ≠ 0 → ∃ t, exec i s = .next t ∧ FaultsCleanly .badBlockLen s t) ∧
    (s.keyed = true → s.x[1].toNat % 8 = 0 → ¬ StringRangesOk s →
      ∃ t, exec i s = .next t ∧ FaultsCleanly .badBuffer s t) ∧
    (s.keyed = true → StringRangesOk s →
      Refuses s s.x[0].toNat s.x[1].toNat false ∨ Refuses s s.x[2].toNat s.x[1].toNat true →
      ∃ t, exec i s = .next t ∧
        FaultsInMemory .busError { base := s.x[2].toNat, len := s.x[1].toNat } s t ∧ KeepsMersenne s t)

/-- R137: BF_DECRYPT_STRING in place over what BF_ENCRYPT_STRING wrote restores the source bytes. -/
def Obligations.StringDecryptionRestoresTheText : Prop :=
  ∀ s t u : State, StringReady s → Memory.wf s.mem = true → exec .bfEncryptString s = .next t →
    u = { t with x := t.x.set 0 s.x[2] } → Readable u s.x[2].toNat s.x[1].toNat →
    ∃ v, exec .bfDecryptString u = .next v ∧ v.err = u.err ∧
      ∀ k < s.x[1].toNat, readByte v.mem (s.x[2].toNat + k) = readByte s.mem (s.x[0].toNat + k)

/-! ### Mersenne Twister (45_random.md) -/

/-- R165, with R162: MT_SEED fills the vector by the recurrence from X0 and sets the cursor to 624. -/
def Obligations.SeedFillsByTheRecurrence : Prop :=
  encode .mtSeed = 0x10#32 ∧
  ∀ s : State, ∃ t, exec .mtSeed s = .next t ∧ WritesXAndMersenne [] s t ∧ t.gen.mti = 624#32 ∧
    t.mtSeeded = true ∧ mtAt t.gen.mt 0 = s.x[0] ∧
    ∀ i < 623, mtAt t.gen.mt (i + 1) =
      1812433253#32 * (mtAt t.gen.mt i ^^^ (mtAt t.gen.mt i >>> 30)) + BitVec.ofNat 32 (i + 1)

/-- R166: MT_SEED_ARRAY's checks, and the engine it leaves from little-endian key words. -/
def Obligations.SeedArrayMixesTheKeyWords : Prop :=
  encode .mtSeedArray = 0x11#32 ∧
  ∀ (s : State) (addr len : Nat), addr = s.x[0].toNat → len = s.x[1].toNat →
    (len = 0 → ∃ t, exec .mtSeedArray s = .next t ∧ FaultsCleanly .badSeedLen s t) ∧
    (1 ≤ len → ¬ InSpace addr (4 * len) → ∃ t, exec .mtSeedArray s = .next t ∧ FaultsCleanly .badBuffer s t) ∧
    (1 ≤ len → InSpace addr (4 * len) → Refuses s addr (4 * len) false →
      ∃ t, exec .mtSeedArray s = .next t ∧ EntersFault .busError s t ∧ t.x = s.x ∧ KeepsMemory s t ∧
        KeepsBlowfish s t) ∧
    (1 ≤ len → Readable s addr (4 * len) →
      ∃ t, exec .mtSeedArray s = .next t ∧ WritesXAndMersenne [] s t ∧ t.gen.mti = 624#32 ∧ t.mtSeeded = true ∧
        t.gen.mt = mtInitArray ((List.range len).map (fun j => wordAt s (addr + 4 * j))) ∧
        mtAt t.gen.mt 0 = 0x80000000#32)

/-- R163: INIT_ARRAY's vector, turn by turn: turn `n` of the two passes rewrites word `1 + n % 623` with the key word and
the position `n % len`, and copies word 623 to word 0; the second pass has 623 turns; word 0 ends as 0x80000000. -/
def Obligations.ArraySeedingRunsTwoPasses : Prop :=
  ∀ key : List Word, key ≠ [] → ∃ V : Nat → Vector Word 624,
    V 0 = mtInit 19650218#32 ∧
    (∀ n < max 624 key.length + 623, ∀ (i : Nat) (p v : Word), i = 1 + n % 623 →
      p = mtAt (V n) (i - 1) ^^^ (mtAt (V n) (i - 1) >>> 30) →
      v = (if n < max 624 key.length then
            (mtAt (V n) i ^^^ (p * 1664525#32)) + key.getD (n % key.length) 0#32 + BitVec.ofNat 32 (n % key.length)
          else (mtAt (V n) i ^^^ (p * 1566083941#32)) - BitVec.ofNat 32 i) →
      ∀ k < 624, mtAt (V (n + 1)) k = if k = i ∨ (k = 0 ∧ i = 623) then v else mtAt (V n) k) ∧
    mtInitArray key = (V (max 624 key.length + 623)).set 0 0x80000000#32

/-- R164: every word after a TWIST, in terms of the words before it and of the words that the same TWIST has already
regenerated: from k = 227 on the word 397 ahead is new, and for k = 623 so is `mt[0]`. -/
def Obligations.TwistFeedsOnItsOwnWords : Prop :=
  ∀ (mt : Vector Word 624) (mix : Word → Word → Word → Word),
    (∀ a b c, mix a b c = c ^^^ (((a &&& 0x80000000#32) ||| (b &&& 0x7FFFFFFF#32)) >>> 1) ^^^
      (if b.getLsbD 0 then 0x9908B0DF#32 else 0#32)) →
    (∀ k < 227, mtAt (twist mt) k = mix (mtAt mt k) (mtAt mt (k + 1)) (mtAt mt (k + 397))) ∧
    (∀ k, 227 ≤ k → k < 623 →
      mtAt (twist mt) k = mix (mtAt mt k) (mtAt mt (k + 1)) (mtAt (twist mt) (k - 227))) ∧
    mtAt (twist mt) 623 = mix (mtAt mt 623) (mtAt (twist mt) 0) (mtAt (twist mt) 396)

/-- R169, with R167 and R168: MT_RAND32 tempers the word at the cursor by the four steps of R167; a cursor of 624 twists
first, and an unseeded engine seeds itself with 5489 and twists. -/
def Obligations.RandDrawsTheNextTemperedWord : Prop :=
  encode .mtRand32 = 0x12#32 ∧
  (∀ y0 y1 y2 y3 y4 : Word, y1 = y0 ^^^ (y0 >>> 11) → y2 = y1 ^^^ ((y1 <<< 7) &&& 0x9D2C5680#32) →
    y3 = y2 ^^^ ((y2 <<< 15) &&& 0xEFC60000#32) → y4 = y3 ^^^ (y3 >>> 18) → temper y0 = y4) ∧
  ∀ s : State, s.gen.mti.toNat ≤ 625 →
    ∃ t, exec .mtRand32 s = .next t ∧ WritesXAndMersenne [0] s t ∧ t.mtSeeded = true ∧
      (s.gen.mti.toNat < 624 → t.x[0] = temper (mtAt s.gen.mt s.gen.mti.toNat) ∧
        t.gen = { mt := s.gen.mt, mti := s.gen.mti + 1#32 }) ∧
      (s.gen.mti = 624#32 → t.x[0] = temper (mtAt (twist s.gen.mt) 0) ∧
        t.gen = { mt := twist s.gen.mt, mti := 1#32 }) ∧
      (s.gen.mti = 625#32 → t.x[0] = temper (mtAt (twist (mtInit 5489#32)) 0) ∧
        t.gen = { mt := twist (mtInit 5489#32), mti := 1#32 })

/-- R14: rounding `n` to `prec` significant bits gives `m * 2^e` of at most that many, no farther from `n` than half of
`2^e`, where `2^e` is no more than the unit of the last place that `n` itself has, and on a tie the one with the even
significand. -/
def Obligations.RoundingIsToNearestEven : Prop :=
  ∀ prec n : Nat, 0 < prec → ∃ m e : Nat, roundSig prec n = m * 2 ^ e ∧ m ≤ 2 ^ prec ∧
    2 * (roundSig prec n - n) ≤ 2 ^ e ∧ 2 * (n - roundSig prec n) ≤ 2 ^ e ∧ (0 < e → 2 ^ (prec - 1) * 2 ^ e ≤ n) ∧
    (0 < e → 2 * (roundSig prec n - n) = 2 ^ e ∨ 2 * (n - roundSig prec n) = 2 ^ e → m % 2 = 0)

/-- R170: MT_RANDFLOAT consumes one draw and gives the binary32 of the draw times `c`, rounded to binary64 and then to
binary32; `c` is 1 / 4294967424 rounded to 53 bits; the result is below 1.0 and never negative, 0 for a draw of 0. -/
def Obligations.RandFloatStaysBelowOne : Prop :=
  encode .mtRandFloat = 0x13#32 ∧
  (∀ s : State, ∃ t, exec .mtRandFloat s = .next t ∧ WritesXAndMersenne [0] s t ∧ t.gen = (draw s.gen).2 ∧
    t.x[0] = floatBits (draw s.gen).1) ∧
  (2 ^ 52 ≤ floatScale ∧ floatScale < 2 ^ 53 ∧ 2 * (floatScale * 4294967424 - 2 ^ 85) ≤ 4294967424 ∧
    2 * (2 ^ 85 - floatScale * 4294967424) ≤ 4294967424) ∧
  (∀ r : Word, (floatBits r).toNat ≤ 0x3F7FFFFF) ∧ floatBits 0#32 = 0#32 ∧
  floatBits 0xFFFFFFFF#32 = 0x3F7FFFFF#32 ∧
  (∀ r : Word, r ≠ 0#32 → ∃ f e : Nat, (floatBits r).toNat = e * 2 ^ 23 + f ∧ f < 2 ^ 23 ∧ 1 ≤ e ∧ e ≤ 126 ∧
    (2 ^ 23 + f) * 2 ^ e = roundSig 24 (roundSig 53 (r.toNat * floatScale)) * 2 ^ 65)

/-- R171: MT_RANDDOUBLE consumes two draws and gives the exact binary64 of `(a·2^26 + b) / 2^53`, below 1. -/
def Obligations.RandDoubleIsExact : Prop :=
  encode .mtRandDouble = 0x14#32 ∧
  ∀ s : State, ∃ (t : State) (a b : Nat), exec .mtRandDouble s = .next t ∧ WritesXAndMersenne [0, 1] s t ∧
    t.gen = (draw (draw s.gen).2).2 ∧ a = (draw s.gen).1.toNat / 32 ∧ b = (draw (draw s.gen).2).1.toNat / 64 ∧
    (a * 2 ^ 26 + b = 0 → pair0 t = 0#64) ∧
    (0 < a * 2 ^ 26 + b → ∃ f e : Nat, (pair0 t).toNat = e * 2 ^ 52 + f ∧ f < 2 ^ 52 ∧ 1 ≤ e ∧ e ≤ 1022 ∧
      (2 ^ 52 + f) * 2 ^ e = (a * 2 ^ 26 + b) * 2 ^ 1022)

/-- R172: MT_RANDRANGE faults `BAD_RANGE` without a draw when hi < lo; else it consumes two draws and gives
`lo + floor(RNE64(v·n))`, which lies in [lo, hi]. -/
def Obligations.RandRangeStaysInItsBounds : Prop :=
  encode .mtRandRange = 0x15#32 ∧
  ∀ s : State,
    (s.x[1].toInt < s.x[0].toInt → ∃ t, exec .mtRandRange s = .next t ∧ FaultsCleanly .badRange s t) ∧
    (s.x[0].toInt ≤ s.x[1].toInt → ∃ (t : State) (n v : Nat), exec .mtRandRange s = .next t ∧
      WritesXAndMersenne [0] s t ∧ t.gen = (draw (draw s.gen).2).2 ∧
      (n : Int) = s.x[1].toInt - s.x[0].toInt + 1 ∧
      v = (draw s.gen).1.toNat / 32 * 2 ^ 26 + (draw (draw s.gen).2).1.toNat / 64 ∧
      t.x[0].toInt = s.x[0].toInt + ((roundSig 53 (v * n) / 2 ^ 53 : Nat) : Int) ∧
      s.x[0].toInt ≤ t.x[0].toInt ∧ t.x[0].toInt ≤ s.x[1].toInt)

/-- R174, with R173: MT_SAVE of a short buffer reports 2500 and writes nothing; else, its range checked, it writes the
624 words and the cursor little-endian and gives 0. The engine is not changed. -/
def Obligations.SaveWritesTheBlob : Prop :=
  encode .mtSave = 0x16#32 ∧
  ∀ (s : State) (buf len : Nat), buf = s.x[0].toNat → len = s.x[1].toNat →
    (len < 2500 → ∃ t, exec .mtSave s = .next t ∧ WritesOnlyX [0] s t ∧ t.x[0] = 2500#32) ∧
    (2500 ≤ len → ¬ InSpace buf 2500 → ∃ t, exec .mtSave s = .next t ∧ FaultsCleanly .badBuffer s t) ∧
    (2500 ≤ len → InSpace buf 2500 → Refuses s buf 2500 true →
      ∃ t, exec .mtSave s = .next t ∧ FaultsInMemory .busError { base := buf, len := 2500 } s t ∧
        KeepsBlowfish s t) ∧
    (2500 ≤ len → Writable s buf 2500 → Memory.wf s.mem = true →
      ∃ t, exec .mtSave s = .next t ∧ WritesXAndRange [0] { base := buf, len := 2500 } s t ∧ t.x[0] = 0#32 ∧
        (∀ i < 624, wordAt t (buf + 4 * i) = mtAt s.gen.mt i) ∧ wordAt t (buf + 2496) = s.gen.mti)

/-- R175: MT_RESTORE's checks, and the engine it takes from the blob. -/
def Obligations.RestoreTakesTheBlob : Prop :=
  encode .mtRestore = 0x17#32 ∧
  ∀ (s : State) (buf : Nat), buf = s.x[0].toNat →
    (¬ InSpace buf 2500 → ∃ t, exec .mtRestore s = .next t ∧ FaultsCleanly .badBuffer s t) ∧
    (InSpace buf 2500 → Refuses s buf 2500 false →
      ∃ t, exec .mtRestore s = .next t ∧ EntersFault .busError s t ∧ t.x = s.x ∧ KeepsMemory s t ∧
        KeepsBlowfish s t) ∧
    (Readable s buf 2500 → 625 < (wordAt s (buf + 2496)).toNat →
      ∃ t, exec .mtRestore s = .next t ∧ EntersFault .badStateBlob s t ∧ t.x = s.x ∧ KeepsMemory s t ∧
        KeepsBlowfish s t) ∧
    (Readable s buf 2500 → (wordAt s (buf + 2496)).toNat ≤ 625 →
      ∃ t, exec .mtRestore s = .next t ∧ WritesXAndMersenne [] s t ∧ t.gen.mti = wordAt s (buf + 2496) ∧
        ∀ i < 624, mtAt t.gen.mt i = wordAt s (buf + 4 * i))

/-- R175: MT_RESTORE, in any state whose memory is what MT_SAVE left, brings the saved engine back exactly. -/
def Obligations.RestoreBringsTheSavedEngineBack : Prop :=
  ∀ s t u : State, s.gen.mti.toNat ≤ 625 → 2500 ≤ s.x[1].toNat → Writable s s.x[0].toNat 2500 →
    Memory.wf s.mem = true → exec .mtSave s = .next t → u.mem = t.mem → u.x[0] = s.x[0] →
    Readable u s.x[0].toNat 2500 →
    ∃ v, exec .mtRestore u = .next v ∧ v.err = u.err ∧ v.gen = s.gen

/-- R176: over any sequence of seeding and drawing commands, each with its operands, two engines with equal `mt` and
`mti` give equal results, one for each command. -/
def Obligations.DrawsDependOnTheEngineAlone : Prop :=
  ∀ cs : List (Vector Word 8 × Instr),
    (∀ c ∈ cs, c.2 ∈ [Instr.mtSeed, .mtRand32, .mtRandFloat, .mtRandDouble, .mtRandRange]) →
    ∀ s s' : State, s.gen = s'.gen →
      resultsOf cs s = resultsOf cs s' ∧ (resultsOf cs s).length = cs.length
end

