-- ==== Sys2Proof/Tests/Slice0.lean ====
section
/-! SUPPORT. Tests. Expected values are the vectors of 95_test_vectors.md (named in each comment) and the tables and
formulas of the rules; witnesses show that the hypotheses of the statements can be met together. -/

namespace Sys2Proof.Tests

open Sys2Proof.Machine

/-- The state after one step, or the same state where there is none. -/
def after (s : State) : State :=
  match step s with
  | .next t    => t
  | .fault _   => s
  | .refused _ => s

/-- A reset state with X0 to X3 given. -/
def regs (x0 x1 x2 x3 : Word) : State :=
  { State.reset with x := #v[x0, x1, x2, x3, 0#32, 0#32, 0#32, 0#32] }

/-- The state after the command, run by one step. -/
def run (i : Instr) (s : State) : State := after (s.withFetchWord 32 (encode i).toNat)

/-- The state after a raw command word (CMDW of R79). -/
def runWord (w : Nat) (s : State) : State := after (s.withFetchWord 32 w)

/-- Bytes in memory at an address (R78's launch contents). -/
def place (a : Nat) (bs : List Byte) (s : State) : State := { s with mem := writeBytes s.mem a bs }

/-- A big-endian host. -/
def bigHost (s : State) : State := { s with cfg := { s.cfg with hostBigEndian := true } }

/-- A keyed engine whose schedule is not looked at. -/
def keyed (s : State) : State := { s with keyed := true }

/-- A Mersenne-Twister engine whose words are all `w`, its cursor given. -/
def flatGen (w mti : Word) (s : State) : State := { s with gen := { mt := Vector.replicate 624 w, mti := mti } }

/-- A command in progress that does not end for `n` host moves. -/
def inProgress (w : Word) (n : Nat) (s : State) : State :=
  { s with cmd := w, running := some { left := n, raced := false } }

/-! ### Well-formedness: an ill-formed term for each check -/

theorem smoke_rsv_refused : ({ op := 0x02, sz := 0, rsv := 0x80000 } : CommandFields).rsvOk = false := by decide
theorem smoke_op_refused : ({ op := 0x06, sz := 0, rsv := 0 } : CommandFields).opOk = false := by decide
theorem smoke_size_refused : ({ op := 0x30, sz := 3, rsv := 0 } : CommandFields).szOk = false := by decide
theorem smoke_size_on_plain_refused : ({ op := 0x01, sz := 1, rsv := 0 } : CommandFields).szOk = false := by decide
theorem smoke_whole_word_refused :
    ({ op := 0x02, sz := 0, rsv := 0x80000 } : CommandFields).wellFormed = false ∧
      ({ op := 0x06, sz := 0, rsv := 0 } : CommandFields).wellFormed = false ∧
      ({ op := 0x30, sz := 3, rsv := 0 } : CommandFields).wellFormed = false ∧
      ({ op := 0x30, sz := 8, rsv := 0 } : CommandFields).wellFormed = true := by decide

/-! ### Decoding: every word of R73 and R74, and the illegal words of C1 to C5 -/

theorem test_decode_blowfish_words :
    decode 0x00000001#32 = .ok .bfInit ∧ decode 0x00000002#32 = .ok .bfEncrypt ∧
      decode 0x00000003#32 = .ok .bfDecrypt ∧ decode 0x00000004#32 = .ok .bfEncryptString ∧
      decode 0x00000005#32 = .ok .bfDecryptString := ⟨rfl, rfl, rfl, rfl, rfl⟩
theorem test_decode_mersenne_words :
    decode 0x00000010#32 = .ok .mtSeed ∧ decode 0x00000011#32 = .ok .mtSeedArray ∧
      decode 0x00000012#32 = .ok .mtRand32 ∧ decode 0x00000013#32 = .ok .mtRandFloat ∧
      decode 0x00000014#32 = .ok .mtRandDouble ∧ decode 0x00000015#32 = .ok .mtRandRange ∧
      decode 0x00000016#32 = .ok .mtSave ∧ decode 0x00000017#32 = .ok .mtRestore :=
  ⟨rfl, rfl, rfl, rfl, rfl, rfl, rfl, rfl⟩
theorem test_decode_base64_words :
    decode 0x00000020#32 = .ok .b64EncLen ∧ decode 0x00000021#32 = .ok .b64Encode ∧
      decode 0x00000022#32 = .ok .b64DecLen ∧ decode 0x00000023#32 = .ok .b64Decode := ⟨rfl, rfl, rfl, rfl⟩
theorem test_decode_bswap_words :
    decode 0x00000130#32 = .ok .bswap1 ∧ decode 0x00000230#32 = .ok .bswap2 ∧
      decode 0x00000430#32 = .ok .bswap4 ∧ decode 0x00000830#32 = .ok .bswap8 := ⟨rfl, rfl, rfl, rfl⟩
theorem test_decode_fixbo_words :
    decode 0x00000131#32 = .ok .fixbo1 ∧ decode 0x00000231#32 = .ok .fixbo2 ∧
      decode 0x00000431#32 = .ok .fixbo4 ∧ decode 0x00000831#32 = .ok .fixbo8 := ⟨rfl, rfl, rfl, rfl⟩
theorem test_decode_fixbo_array_words :
    decode 0x00000132#32 = .ok .fixboArray1 ∧ decode 0x00000232#32 = .ok .fixboArray2 ∧
      decode 0x00000432#32 = .ok .fixboArray4 ∧ decode 0x00000832#32 = .ok .fixboArray8 := ⟨rfl, rfl, rfl, rfl⟩
/-- One word of each engine, bit by bit: RSV in 31:12, SZ in 11:8, OP in 7:0 (R71). -/
theorem test_decode_bit_by_bit :
    decode (0x00000#20 ++ 0b0000#4 ++ 0b00000101#8) = .ok .bfDecryptString ∧
      decode (0x00000#20 ++ 0b0000#4 ++ 0b00010111#8) = .ok .mtRestore ∧
      decode (0x00000#20 ++ 0b0000#4 ++ 0b00100011#8) = .ok .b64Decode ∧
      decode (0x00000#20 ++ 0b0010#4 ++ 0b00110010#8) = .ok .fixboArray2 := ⟨rfl, rfl, rfl, rfl⟩
theorem test_decode_rejects_by_name :
    decode 0x00000000#32 = .error .unassignedOpcode ∧ decode 0x000000FF#32 = .error .unassignedOpcode ∧
      decode 0x00000101#32 = .error .sizeOnPlainOpcode ∧ decode 0x00000F30#32 = .error .badElementSize ∧
      decode 0x00001000#32 = .error .reservedBits ∧ decode 0x80000002#32 = .error .reservedBits :=
  ⟨rfl, rfl, rfl, rfl, rfl, rfl⟩
theorem test_decode_table_word :
    decodeTableWord 32 304 = some .bswap1 ∧ decodeTableWord 32 2098 = some .fixboArray8 ∧
      decodeTableWord 32 6 = none := by decide

/-! ### Byte order (vectors O1 to O16) -/

theorem test_bswap1 : (run .bswap1 (regs 0x11223344 9 0 0)).x[0] = 0x44#32 := by decide
theorem test_bswap2 : (run .bswap2 (regs 0x11223344 9 0 0)).x[0] = 0x4433#32 := by decide
theorem test_bswap4 : (run .bswap4 (regs 0x11223344 9 0 0)).x[0] = 0x44332211#32 := by decide
theorem test_bswap8 : (run .bswap8 (regs 0x55667788 0x11223344 0 0)).x[1] = 0x88776655#32 ∧
    (run .bswap8 (regs 0x55667788 0x11223344 0 0)).x[0] = 0x44332211#32 := by decide
theorem test_fixbo1 : (run .fixbo1 (regs 0x11223344 0 0 0)).x[0] = 0x44#32 := by decide
theorem test_fixbo2_both_hosts : (run .fixbo2 (regs 0x11223344 0 0 0)).x[0] = 0x3344#32 ∧
    (run .fixbo2 (bigHost (regs 0x11223344 0 0 0))).x[0] = 0x4433#32 := by decide
theorem test_fixbo4_big : (run .fixbo4 (bigHost (regs 0x11223344 0 0 0))).x[0] = 0x44332211#32 := by decide
theorem test_fixbo8_little : (run .fixbo8 (regs 0x55667788 0x11223344 0 0)).x[1] = 0x11223344#32 := by decide
theorem test_fixboArray1_partial : (run .fixboArray1 (bigHost (regs 0x110 0x100 0 0))).status = 0xB02#32 := by decide
theorem test_fixboArray2_unaligned :
    readBytes (run .fixboArray2 (bigHost (place 0x101 [0xAA, 0xBB] (regs 0x101 0x103 0 0)))).mem 0x101 2
      = [0xBB, 0xAA] := by decide
theorem test_fixboArray4_big :
    readBytes (run .fixboArray4 (bigHost (place 0x100 [1, 2, 3, 4, 5, 6, 7, 8] (regs 0x100 0x108 0 0)))).mem 0x100 8
      = [4, 3, 2, 1, 8, 7, 6, 5] := by decide
theorem test_fixboArray4_partial_element : (run .fixboArray4 (regs 0x100 0x106 0 0)).status = 0xB02#32 := by decide
theorem test_fixboArray8_empty : (run .fixboArray8 (bigHost (regs 0x100 0x100 0 0))).status = 0#32 := by decide

/-! ### Base64 (vectors E1 to E13, D1 to D14) -/

theorem test_encLen_largest : (run .b64EncLen (regs 3221225469 0 0 0)).x[0] = 0xFFFFFFFC#32 := by decide
theorem test_encLen_overflow : (run .b64EncLen (regs 3221225470 0 0 0)).status = 0xC02#32 ∧
    (run .b64EncLen (regs 3221225470 0 0 0)).x[0] = 3221225470#32 := by decide
theorem test_decLen_largest : (run .b64DecLen (regs 0xFFFFFFFF 0 0 0)).x[0] = 0xC0000000#32 := by decide
theorem test_decLen_five : (run .b64DecLen (regs 5 0 0 0)).x[0] = 6#32 := by decide
/-- E8: `FB FF` gives `+/8=`. -/
theorem test_encode_two_bytes :
    readBytes (run .b64Encode (place 0x100 [0xFB, 0xFF] (regs 0x200 0x100 2 0))).mem 0x200 4
      = [0x2B, 0x2F, 0x38, 0x3D] := by decide
/-- E11: the last four bytes of the space. -/
theorem test_encode_at_the_top :
    readBytes (run .b64Encode (place 0x100 [0x4D, 0x61, 0x6E] (regs 0xFFFFFFFC 0x100 3 0))).mem 0xFFFFFFFC 4
      = [0x54, 0x57, 0x46, 0x75] := by decide
/-- D5: `TWE` read as `TWE=`. -/
theorem test_decode_truncated :
    (run .b64Decode (place 0x100 [0x54, 0x57, 0x45] (place 0x200 [0xEE, 0xEE, 0xEE] (regs 0x200 0x100 3 0)))).x[0]
      = 2#32 ∧
    readBytes (run .b64Decode (place 0x100 [0x54, 0x57, 0x45]
      (place 0x200 [0xEE, 0xEE, 0xEE] (regs 0x200 0x100 3 0)))).mem 0x200 3 = [0x4D, 0x61, 0xEE] := by decide
/-- D10: `Zg=A`. -/
theorem test_decode_data_after_pad :
    (run .b64Decode (place 0x100 [0x5A, 0x67, 0x3D, 0x41] (regs 0x200 0x100 4 0))).status = 0x702#32 := by decide

/-! ### Blowfish (vectors B1 to B20, R152) -/

theorem test_tables_spot_values :
    piWord 0 = 0x243F6A88#32 ∧ piWord 1 = 0x85A308D3#32 ∧ piWord 17 = 0x8979FB1B#32 ∧ piWord 18 = 0xD1310BA6#32 ∧
      piWord 273 = 0x6E85076A#32 ∧ piWord 274 = 0x4B7A70E9#32 ∧ piWord 530 = 0xE93D5A68#32 ∧
      piWord 786 = 0x3A39CE37#32 ∧ piWord 1041 = 0x3AC372E6#32 := by decide +kernel
theorem test_tables_check_sums :
    piTable.length = 1042 ∧ piTable.foldl (· ^^^ ·) 0#32 = 0x6FFA520A#32 ∧
      piTable.foldl (· + ·) 0#32 = 0x6BBF03AC#32 := by decide +kernel
/-- B1: for a key of zeros the mix changes nothing, so P[0] and P[1] are the initial tables' encryption of (0, 0). -/
theorem test_first_fill_of_the_zero_key : bfE initialSchedule 0#32 0#32 = (0x706D9FCC#32, 0x1792D23A#32) := by
  decide +kernel
/-- B7, B8: the block 4EF99745 as bytes, in both orders. -/
theorem test_unpack_both_orders : unpackHalf .big 0x4EF99745#32 = [0x4E, 0xF9, 0x97, 0x45] ∧
    unpackHalf .little 0x4EF99745#32 = [0x45, 0x97, 0xF9, 0x4E] := by decide
theorem test_bfInit_key_length : (run .bfInit (regs 0x100 57 0 0)).status = 0x502#32 ∧
    (run .bfInit (regs 0x100 0 0 0)).status = 0x502#32 := by decide
theorem test_bfInit_wraps : (run .bfInit (regs 0xFFFFFFFC 8 0 0)).status = 0xB02#32 := by decide
theorem test_bfEncrypt_not_keyed : (run .bfEncrypt (regs 3 4 0 0)).status = 0x402#32 ∧
    (run .bfEncrypt (regs 3 4 0 0)).x[0] = 3#32 := by decide
theorem test_bfDecrypt_not_keyed : (run .bfDecrypt (regs 3 4 0 0)).status = 0x402#32 := by decide
theorem test_bfEncryptString_empty : (run .bfEncryptString (keyed (regs 0x200 0 0x300 99))).x[3] = 0#32 ∧
    (run .bfEncryptString (keyed (regs 0x200 0 0x300 99))).status = 4#32 := by decide
theorem test_bfEncryptString_overlap :
    (run .bfEncryptString (keyed (regs 0x200 16 0x208 0))).status = 0xB06#32 := by decide
theorem test_bfDecryptString_key_before_length :
    (run .bfDecryptString (regs 0x200 12 0x300 0)).status = 0x402#32 ∧
      (run .bfDecryptString (keyed (regs 0x200 12 0x300 0))).status = 0x606#32 := by decide

/-! ### Mersenne Twister (vectors M1 to M31, program P2) -/

/-- M3: mt[0], mt[1] and mt[2] after MT_SEED of 1. -/
theorem test_seed_first_words : mtAt (run .mtSeed (regs 1 0 0 0)).gen.mt 0 = 1#32 ∧
    mtAt (run .mtSeed (regs 1 0 0 0)).gen.mt 1 = 1812433254#32 ∧
    mtAt (run .mtSeed (regs 1 0 0 0)).gen.mt 2 = 3713160357#32 := by decide +kernel
theorem test_seed_status : (run .mtSeed (regs 1 0 0 0)).status = 8#32 := by decide
theorem test_seedArray_empty : (run .mtSeedArray (regs 0x401 0 0 0)).status = 0x902#32 := by decide
theorem test_seedArray_exact_length : (run .mtSeedArray (regs 4 0x40000000 0 0)).status = 0xB02#32 := by decide
/-- P2: mt[0] after the first TWIST is 0x9CB47A9A and its draw 0x6AC1F425. -/
theorem test_rand32_tempers : (run .mtRand32 (flatGen 0x9CB47A9A 5 (regs 0 0 0 0))).x[0] = 0x6AC1F425#32 ∧
    (run .mtRand32 (flatGen 0x9CB47A9A 5 (regs 0 0 0 0))).gen.mti = 6#32 := by decide +kernel
/-- P2: mt[1] is 0xB1D19108 and its draw 0xFF4780EB. -/
theorem test_temper_second_word : temper 0xB1D19108#32 = 0xFF4780EB#32 := by decide
/-- M13: the draw 0x6AC1F425. -/
theorem test_randFloat : (run .mtRandFloat (flatGen 0x9CB47A9A 5 (regs 0 0 0 0))).x[0] = 0x3ED583E8#32 := by
  decide +kernel
/-- M18. -/
theorem test_floatBits_corners : floatBits 0#32 = 0#32 ∧ floatBits 1#32 = 0x2F800000#32 ∧
    floatBits 0x80000000#32 = 0x3F000000#32 ∧ floatBits 0xFFFFFF7F#32 = 0x3F7FFFFF#32 ∧
    floatBits 0xFFFFFFFF#32 = 0x3F7FFFFF#32 := by decide +kernel
/-- M14: the draws 0x6AC1F425 and 0xFF4780EB. -/
theorem test_double_of_two_draws :
    bits64 (doubleInt 0x6AC1F425#32 0xFF4780EB#32) 53 = 0x3FDAB07D0FFA3C06#64 := by decide +kernel
theorem test_randDouble_draws_twice : (run .mtRandDouble (flatGen 0 5 (regs 9 9 0 0))).x[1] = 0#32 ∧
    (run .mtRandDouble (flatGen 0 5 (regs 9 9 0 0))).gen.mti = 7#32 := by decide +kernel
/-- M19, M22, M23: the offsets from lo of the same two draws. -/
theorem test_rangeOffset :
    rangeOffset (doubleInt 0x6AC1F425#32 0xFF4780EB#32) 6 = 2 ∧
      rangeOffset (doubleInt 0x6AC1F425#32 0xFF4780EB#32) 4294967296 = 0x6AC1F43F ∧
      rangeOffset (doubleInt 0x6AC1F425#32 0xFF4780EB#32) 2147483648 = 0x3560FA1F := by decide +kernel
theorem test_randRange_reversed : (run .mtRandRange (flatGen 0 624 (regs 100 99 0 0))).status = 0x80A#32 ∧
    (run .mtRandRange (flatGen 0 624 (regs 100 99 0 0))).gen.mti = 624#32 := by decide
theorem test_save_short : (run .mtSave (flatGen 0 624 (regs 0x1000 2499 0 0))).x[0] = 0x9C4#32 ∧
    (run .mtSave (flatGen 0 624 (regs 0x1000 2499 0 0))).status = 8#32 := by decide
theorem test_save_wraps : (run .mtSave (flatGen 0 624 (regs 0xFFFFF700 2500 0 0))).status = 0xB0A#32 := by decide
/-- M30: the cursor 626. -/
theorem test_restore_bad_cursor :
    (run .mtRestore (place 0x19C0 [0x72, 0x02] (regs 0x1000 0 0 0))).errcode = 0x0A#8 := by decide +kernel
/-- M29: the cursor 625. -/
theorem test_restore_unseeded :
    (run .mtRestore (place 0x19C0 [0x71, 0x02] (regs 0x1000 0 0 0))).status = 0#32 := by decide +kernel

/-! ### Host accesses, faults and reset (vectors C1 to C14) -/

/-- A host with one access to make. -/
def access (e : HostEvent) (s : State) : State := { s with host := [e] }

theorem test_illegal_words : (runWord 0x00000000 State.reset).status = 0x102#32 ∧
    (runWord 0x00000330 State.reset).status = 0x102#32 ∧ (runWord 0x00000330 State.reset).cmd = 0x330#32 ∧
    (runWord 0x80000002 State.reset).status = 0x102#32 := by decide
theorem test_cmd_ignored_after_fault :
    (after (access (.busWrite 0 4 0x20) (raise .illegalCmd (regs 5 0 0 0)))).running = none ∧
      (after (access (.busWrite 0 4 0x20) (raise .illegalCmd (regs 5 0 0 0)))).cmd = 0#32 := by decide
theorem test_status_write : (after (access (.busWrite 4 4 1) State.reset)).status = 0x202#32 := by decide
theorem test_reserved_write_and_read : (after (access (.busWrite 0x30 4 1) State.reset)).status = 0x202#32 ∧
    (after (access (.busRead 0x08 4) State.reset)).readData = 0#32 := by decide
theorem test_narrow_write : (after (access (.busWrite 0x10 2 1) State.reset)).status = 0x202#32 ∧
    (after (access (.busWrite 0x10 2 1) State.reset)).x[0] = 0#32 := by decide
theorem test_busy_violation :
    (after (access (.busWrite 0x18 4 7) (inProgress 0x20 3 (regs 1 2 3 4)))).status = 0x302#32 ∧
      (after (access (.busWrite 0x18 4 7) (inProgress 0x20 3 (regs 1 2 3 4)))).x[2] = 3#32 := by decide
theorem test_second_violation_keeps_code :
    (after (access (.busWrite 8 4 7) (raise .illegalCmd State.reset))).errcode = 0x01#8 := by decide
theorem test_reset_clears : (after (access .reset (raise .illegalCmd (regs 1 2 3 4)))).status = 0#32 ∧
    (after (access .reset (raise .illegalCmd (regs 1 2 3 4)))).x[3] = 0#32 ∧
    (after (access .reset (raise .illegalCmd (regs 1 2 3 4)))).gen.mti = 625#32 := by decide
theorem test_x_write_and_cmd_read : (after (access (.busWrite 0x2C 4 7) State.reset)).x[7] = 7#32 ∧
    (after (access (.busRead 0 4) (raise .hostAccess { State.reset with cmd := 5#32 }))).readData = 5#32 := by decide
/-- R64, R51: B64_ENCODE's source is [0x100, 0x103). -/
theorem test_race_is_marked :
    (after (access (.memWrite 0x100 1) (inProgress 0x21 3 (regs 0x200 0x100 3 0)))).running
      = some { left := 2, raced := true, inputRaced := true } ∧
    (after (access (.memWrite 0x103 1) (inProgress 0x21 3 (regs 0x200 0x100 3 0)))).running
      = some { left := 2, raced := false } := by decide
/-- R51, R221, D27: of B64_DECODE of `TWE=` to 0x200 the bytes 0x200 and 0x201 are written and 0x202 is not. -/
theorem test_suppressed_byte_is_no_race :
    (after (access (.memWrite 0x201 1) (inProgress 0x23 3 (place 0x100 [0x54, 0x57, 0x45] (regs 0x200 0x100 3 0))))).running
      = some { left := 2, raced := true } ∧
    (after (access (.memWrite 0x202 1) (inProgress 0x23 3 (place 0x100 [0x54, 0x57, 0x45] (regs 0x200 0x100 3 0))))).running
      = some { left := 2, raced := false } := by decide
/-- R64, R191: a race raises no fault and hides none: the command's own fault is reported. -/
theorem test_raced_fault_is_reported :
    (after { regs 0x200 0xFFFFFFFF 3 0 with cmd := 0x21#32, running := some { left := 0, raced := true } }).status
      = 0xB02#32 := by decide
/-- R8, R22 and log entry 22: a window at 0xFFFFFFE0 goes on at address 0. -/
theorem test_window_wraps :
    inWindow { Config.atReset with coreBase := 0xFFFFFFE0#32 } 0x8#32 4 = true ∧
      windowOffset { Config.atReset with coreBase := 0xFFFFFFE0#32 } 0x8#32 = 0x28 := by decide
theorem test_idle_step_stays : step State.reset = .next State.reset := rfl
/-- R79: CALL and the renamed pseudo-instructions. -/
theorem test_script_expansions :
    (ScriptLine.call .b64EncLen [10]).accesses 0x1000 =
      [.busWrite 0x1010 4 10, .busWrite 0x1000 4 0x20, .wait] ∧
    pseudoCommand "BSWAP64" = some .bswap8 := by decide

/-! ### Witnesses: states and operands that meet the hypotheses of each statement -/

/-- A platform that admits no access to the state's memory port. -/
def shut (s : State) : State := { s with cfg := { s.cfg with admitted := [] } }

/-- A platform that admits reads everywhere and writes nowhere. -/
def readOnly (s : State) : State :=
  { s with cfg := { s.cfg with admitted := [{ base := 0, size := 4294967296, read := true, write := false }] } }

/-- On a platform that admits the whole space, every well-formed range can be read and written. -/
theorem whole_space {s : State} (h : s.cfg.admitted = Config.atReset.admitted) (a n : Nat) (w : Bool)
    (ha : a + n ≤ 4294967296) : InSpace a n ∧ ∀ k < n, memAdmit s.cfg (a + k) w = true := by
  refine ⟨.inr ha, fun k hk => ?_⟩
  simp only [memAdmit, h, Config.atReset, List.any_cons, List.any_nil, Bool.or_false, Bool.and_eq_true,
    decide_eq_true_eq]
  exact ⟨by omega, by cases w <;> rfl⟩

theorem witness_IllegalWords_running (w : Word) :
    (inProgress w 0 State.reset).running = some { left := 0, raced := false } ∧ (inProgress w 0 State.reset).cmd = w :=
  ⟨rfl, rfl⟩
theorem witness_IllegalWords_reserved : ∀ w ∈ [0x00001000#32, 0xFFFFF001#32], w.toNat / 4096 ≠ 0 := by simp
theorem witness_IllegalWords_bad_size : ∀ w ∈ [0x030#32, 0x331#32, 0xF32#32],
    w.toNat % 256 ∈ [0x30, 0x31, 0x32] ∧ w.toNat / 256 % 16 ∉ [1, 2, 4, 8] := by simp
theorem witness_IllegalWords_size_on_plain : ∀ w ∈ [0x101#32, 0xF23#32, 0x12F#32],
    w.toNat % 256 ∉ [0x30, 0x31, 0x32] ∧ w.toNat / 256 % 16 ≠ 0 := by simp
theorem witness_IllegalWords_unassigned :
    ∀ w ∈ [0x00#32, 0x06#32, 0x0F#32, 0x18#32, 0x1F#32, 0x24#32, 0x2F#32, 0x33#32, 0xFF#32],
      w.toNat % 256 = 0 ∨ (0x06 ≤ w.toNat % 256 ∧ w.toNat % 256 ≤ 0x0F) ∨
        (0x18 ≤ w.toNat % 256 ∧ w.toNat % 256 ≤ 0x1F) ∨ (0x24 ≤ w.toNat % 256 ∧ w.toNat % 256 ≤ 0x2F) ∨
        0x33 ≤ w.toNat % 256 := by simp
theorem witness_StepRuns : ∃ (s : State) (r : Running) (i : Instr), s.running = some r ∧ r.left = 0 ∧
    r.raced = false ∧ decode s.cmd = .ok i := ⟨inProgress 0x20 0 State.reset, _, .b64EncLen, rfl, rfl, rfl, rfl⟩
theorem witness_EventuallyEnds_host_done : ∃ (s : State) (r : Running), s.running = some r ∧ s.host = [] :=
  ⟨inProgress 0x20 3 State.reset, _, rfl, rfl⟩
theorem witness_EventuallyEnds_host_waits : ∃ (s : State) (r : Running) (rest : List HostEvent),
    s.running = some r ∧ s.host = .wait :: rest := ⟨access .wait (inProgress 0x20 3 State.reset), _, [], rfl, rfl⟩

theorem reset_inv : Inv State.reset := ⟨rfl, by decide, by decide, by decide, by decide⟩
theorem witness_StepKeepsTheStateSound : ∃ s t : State, Inv s ∧ step s = .next t ∧ t.x[0] = 16#32 :=
  ⟨inProgress 0x20 0 (regs 10 0 0 0), finish (setX 0 16#32 (inProgress 0x20 0 (regs 10 0 0 0))),
    ⟨rfl, by decide, by decide, by decide, by decide⟩, rfl, rfl⟩
theorem witness_EnginesShareNoState : engineOf .mtRand32 ≠ .blowfish ∧ engineOf .bfInit ≠ .mersenne := by decide
theorem witness_ResultRegisters : ∃ s t : State, exec .bfEncrypt s = .next t ∧ s.err = false ∧ t.err = true :=
  ⟨regs 3 4 0 0, _, rfl, rfl, rfl⟩
theorem witness_WriteRanges : ∃ s t : State, exec .b64Encode s = .next t ∧ t.err = false ∧
    (∀ q ∈ writeRanges .b64Encode s, q.has 0x1FF = false ∧ q.has 0x204 = false ∧ q.has 0x200 = true) :=
  ⟨regs 0x200 0x100 2 0, _, rfl, by decide +kernel, by decide⟩
theorem witness_ReadRanges : ∃ (s : State) (m : Memory), readByte m 0x102 ≠ readByte s.mem 0x102 ∧
    Memory.wf s.mem = true ∧ Memory.wf m = true ∧ (∃ t, exec .b64Encode s = .next t ∧ t.err = false) ∧
    (∀ q ∈ writeRanges .b64Encode s, q.has 0x200 = true) ∧
    ∀ q ∈ readRanges .b64Encode s, ∀ a : Nat, q.has a = true → readByte m a = readByte s.mem a := by
  refine ⟨regs 0x200 0x100 2 0, [(0x102, 7#8)], by decide, rfl, by decide,
    ⟨_, rfl, by decide +kernel⟩, by decide, fun q hq a ha => ?_⟩
  have hq : q = { base := 0x100, len := 2 } := by simpa [readRanges, regs] using hq
  subst hq
  have : a ≠ 0x102 := fun h => by subst h; exact absurd ha (by decide)
  simp [readByte, regs, State.reset, State.resetWith, this]
theorem witness_OnlyBfInit : ∃ s t : State, s.err = false ∧ exec .b64DecLen s = .next t ∧ t.err = false :=
  ⟨State.reset, _, rfl, rfl, rfl⟩
theorem witness_FaultsLeaveTheRest_clean : ∃ s t : State, s.err = false ∧ exec .bfEncrypt s = .next t ∧
    t.err = true ∧ t.errcode ≠ 0x07#8 ∧ t.errcode ≠ 0x0A#8 ∧ t.errcode ≠ 0x0D#8 :=
  ⟨regs 3 4 0 0, _, rfl, rfl, by decide, by decide, by decide, by decide⟩
theorem witness_FaultsLeaveTheRest_bus : ∃ s t : State, s.err = false ∧ exec .b64Encode s = .next t ∧
    t.err = true ∧ t.errcode = 0x0D#8 ∧ (∀ q ∈ writeRanges .b64Encode s, q.has 0x1FF = false) :=
  ⟨shut (regs 0x200 0x100 2 0), _, rfl, rfl, by decide +kernel, by decide +kernel, by decide⟩

/-- A core that has faulted, its host about to make a move. -/
def faulted (e : HostEvent) : State := access e (raise .illegalCmd (regs 1 2 3 4))

theorem witness_FaultStays : ∀ e ∈ [regWrite 0 0 9, regWrite 0 7 9, .busRead 0x10 4, .busRead 0x2C 4, .busRead 0 4,
      .busRead 4 4, .busWrite 0 4 0x20, .busWrite 4 4 1, .memWrite 5 5, .wait],
    (faulted e).err = true ∧ (faulted e).running = none ∧ (faulted e).host = [e] ∧ e ≠ .reset ∧
      ∃ t, step (faulted e) = .next t := by
  intro e he
  simp only [List.mem_cons, List.not_mem_nil, or_false] at he
  refine ⟨rfl, rfl, rfl, ?_, ⟨_, rfl⟩⟩
  rcases he with rfl | rfl | rfl | rfl | rfl | rfl | rfl | rfl | rfl | rfl <;> decide

theorem witness_SeededBit : (flatGen 0 624 State.reset).gen.mti ≠ 625#32 ∧ State.reset.gen.mti = 625#32 := by decide

theorem hostMoves_idle (e : HostEvent) (s : State) (h : s.running = none) : HostMoves (access e s) e [] :=
  ⟨rfl, fun r hr => by simp [access, h] at hr⟩
theorem hostMoves_busy (e : HostEvent) (w : Word) (s : State) : HostMoves (access e (inProgress w 2 s)) e [] :=
  ⟨rfl, fun r hr => by
    have hr : r = { left := 2, raced := false } := by simpa [access, inProgress, eq_comm] using hr
    simp [hr]⟩

theorem witness_CmdWrite_starts : ∃ s : State, HostMoves s (.busWrite s.cfg.coreBase 4 0x20) [] ∧
    s.running = none ∧ s.err = false := ⟨access (.busWrite 0 4 0x20) State.reset, hostMoves_idle _ _ rfl, rfl, rfl⟩
theorem witness_CmdWrite_ignored : ∃ s : State, HostMoves s (.busWrite s.cfg.coreBase 4 0x20) [] ∧
    s.running = none ∧ s.err = true := ⟨faulted (.busWrite 0 4 0x20), hostMoves_idle _ _ rfl, rfl, rfl⟩
theorem witness_CmdWrite_violates : ∃ s : State, HostMoves s (.busWrite s.cfg.coreBase 4 0x20) [] ∧
    s.busy = true := ⟨access (.busWrite 0 4 0x20) (inProgress 0x21 2 State.reset), hostMoves_busy _ _ _, rfl⟩
theorem witness_CmdRead : ∃ s : State, HostMoves s (.busRead s.cfg.coreBase 4) [] ∧ s.busy = true :=
  ⟨access (.busRead 0 4) (inProgress 0x21 2 State.reset), hostMoves_busy _ _ _, rfl⟩

theorem witness_HostWrites_idle : ∃ s u : State, HostMoves s (regWrite s.cfg.coreBase (0 : Fin 8).val 5) [] ∧
    s.running = none ∧ HostMoves u (regWrite u.cfg.coreBase (7 : Fin 8).val 5) [] ∧ u.running = none :=
  ⟨access (regWrite 0 0 5) State.reset, access (regWrite 0 7 5) State.reset, hostMoves_idle _ _ rfl, rfl,
    hostMoves_idle _ _ rfl, rfl⟩
theorem witness_HostWrites_busy : ∃ (s : State) (i : Instr), HostMoves s (regWrite s.cfg.coreBase (7 : Fin 8).val 5) [] ∧
    s.busy = true ∧ decode s.cmd = .ok i ∧ (∀ q ∈ openRanges i s, q.has 0x204 = false) ∧ engineOf i ≠ .blowfish ∧
    engineOf i ≠ .mersenne ∧ isRaced s = false :=
  ⟨access (regWrite 0 7 5) (inProgress 0x21 2 (regs 0x200 0x100 3 0)), .b64Encode, hostMoves_busy _ _ _, rfl, rfl,
    by decide, by decide, by decide, rfl⟩
theorem witness_HostWrites_illegal_word : ∃ (s : State) (e : DecodeError),
    HostMoves s (regWrite s.cfg.coreBase (0 : Fin 8).val 5) [] ∧ s.busy = true ∧ decode s.cmd = .error e :=
  ⟨access (regWrite 0 0 5) (inProgress 0x06 2 State.reset), .unassignedOpcode, hostMoves_busy _ _ _, rfl, rfl⟩
theorem witness_HostReads_idle : ∃ s : State,
    HostMoves s (.busRead (s.cfg.coreBase + BitVec.ofNat 32 (0x10 + 4 * (7 : Fin 8).val)) 4) [] ∧ s.running = none :=
  ⟨access (.busRead 0x2C 4) State.reset, hostMoves_idle _ _ rfl, rfl⟩

theorem witness_BadWindow_offsets :
    (∀ p ∈ [(0x04, 4), (0x08, 4), (0x0C, 4), (0x30, 4), (0x3C, 4), (0, 1), (0, 3), (0, 5), (1, 4), (0x3F, 1), (0x3F, 4),
        (0x2E, 4), (0x10, 8)], p.1 < 64 ∧ 0 < p.2 ∧
      (p.2 ≠ 4 ∨ p.1 % 4 ≠ 0 ∨ p.1 ∈ [0x04, 0x08, 0x0C, 0x30, 0x34, 0x38, 0x3C])) ∧
    (∀ p ∈ [(0, 1), (4, 2), (1, 4), (0x3F, 1), (0x3F, 4), (0x10, 8)], p.1 < 64 ∧ 0 < p.2 ∧ (p.2 ≠ 4 ∨ p.1 % 4 ≠ 0)) ∧
    (∀ off ∈ [0x08, 0x0C, 0x30, 0x34, 0x38, 0x3C], off < 64) := by decide
theorem witness_BadWindow_idle (off bytes : Nat) (v : Word) : ∃ s u : State,
    HostMoves s (.busWrite (s.cfg.coreBase + BitVec.ofNat 32 off) bytes v) [] ∧ s.running = none ∧
    HostMoves u (.busRead (u.cfg.coreBase + BitVec.ofNat 32 off) bytes) [] ∧ u.running = none :=
  ⟨access (.busWrite (0#32 + BitVec.ofNat 32 off) bytes v) State.reset,
    access (.busRead (0#32 + BitVec.ofNat 32 off) bytes) State.reset, hostMoves_idle _ _ rfl, rfl, hostMoves_idle _ _ rfl,
    rfl⟩
theorem witness_BadWindow_busy (off bytes : Nat) (v : Word) : ∃ s u : State,
    HostMoves s (.busWrite (s.cfg.coreBase + BitVec.ofNat 32 off) bytes v) [] ∧ s.busy = true ∧
    HostMoves u (.busRead (u.cfg.coreBase + BitVec.ofNat 32 off) bytes) [] ∧ u.busy = true :=
  ⟨access (.busWrite (0#32 + BitVec.ofNat 32 off) bytes v) (inProgress 0x21 2 State.reset),
    access (.busRead (0#32 + BitVec.ofNat 32 off) bytes) (inProgress 0x21 2 State.reset), hostMoves_busy _ _ _, rfl,
    hostMoves_busy _ _ _, rfl⟩

theorem witness_ResetAborts_idle : ∃ s : State, HostMoves s .reset [] ∧ s.running = none :=
  ⟨access .reset (regs 1 2 3 4), hostMoves_idle _ _ rfl, rfl⟩
theorem witness_ResetAborts_running : ∃ (s : State) (i : Instr), HostMoves s .reset [] ∧ s.busy = true ∧
    decode s.cmd = .ok i ∧ ∀ q ∈ openRanges i s, q.has 0x204 = false :=
  ⟨access .reset (inProgress 0x21 2 (regs 0x200 0x100 3 0)), .b64Encode, hostMoves_busy _ _ _, rfl, rfl, by decide⟩
theorem witness_ResetAborts_illegal_word : ∃ (s : State) (e : DecodeError), HostMoves s .reset [] ∧ s.busy = true ∧
    decode s.cmd = .error e := ⟨access .reset (inProgress 0x06 2 State.reset), .unassignedOpcode, hostMoves_busy _ _ _, rfl, rfl⟩
theorem witness_RaceSpoils_normal : ∃ (s u : State) (r : Running), s.running = some r ∧ r.left = 0 ∧ r.raced = true ∧
    decode s.cmd = .ok .b64Encode ∧ exec .b64Encode s = .next u ∧ u.err = false ∧
    (∀ q ∈ openRanges .b64Encode s, q.has 0x204 = false) :=
  ⟨{ regs 0x200 0x100 3 0 with cmd := 0x21#32, running := some { left := 0, raced := true } }, _, _, rfl, rfl, rfl, rfl,
    rfl, by decide +kernel, by decide⟩
theorem witness_RaceSpoils_fault : ∃ (s u : State) (r : Running), s.running = some r ∧ r.left = 0 ∧ r.raced = true ∧
    decode s.cmd = .ok .b64Decode ∧ exec .b64Decode s = .next u ∧ u.err = true ∧
    (∀ q ∈ openRanges .b64Decode s, q.has 0x203 = false ∧ q.has 0x202 = true) :=
  ⟨{ regs 0x200 0x100 4 0 with cmd := 0x23#32, running := some { left := 0, raced := true, inputRaced := true } }, _, _,
    rfl, rfl, rfl, rfl, rfl, by decide +kernel, by decide⟩

theorem witness_RevReverses : ∀ n ∈ [1, 2, 4, 8], 0 < 256 ^ n ∧ 256 ^ n - 1 < 256 ^ n := by decide
theorem witness_Fixbo : State.reset.cfg.hostBigEndian = false ∧ (bigHost State.reset).cfg.hostBigEndian = true :=
  ⟨rfl, rfl⟩
theorem witness_FixboArray_reversed : ∃ s : State, s.x[1].toNat < s.x[0].toNat := ⟨regs 1 0 0 0, by decide⟩
theorem witness_FixboArray_partial : ∀ p ∈ [(2, regs 0 1 0 0), (4, regs 0 3 0 0), (8, regs 0 7 0 0)],
    p.2.x[0].toNat ≤ p.2.x[1].toNat ∧ (p.2.x[1].toNat - p.2.x[0].toNat) % p.1 ≠ 0 := by decide
theorem witness_FixboArray_untouched : ∀ s ∈ [regs 0x100 0x100 0 0, regs 0x100 0x108 0 0],
    s.x[0].toNat ≤ s.x[1].toNat ∧ (s.x[1].toNat - s.x[0].toNat) % 8 = 0 ∧ s.cfg.hostBigEndian = false := by decide
theorem witness_FixboArray_swapped : ∃ s : State, s.x[0].toNat ≤ s.x[1].toNat ∧
    (s.x[1].toNat - s.x[0].toNat) % 8 = 0 ∧ s.cfg.hostBigEndian = true ∧ 0 < (s.x[1].toNat - s.x[0].toNat) / 8 ∧
    Memory.wf s.mem = true ∧ Readable s s.x[0].toNat (s.x[1].toNat - s.x[0].toNat) ∧
    Writable s s.x[0].toNat (s.x[1].toNat - s.x[0].toNat) :=
  ⟨bigHost (place 0x101 [1, 2, 3] (regs 0x101 0x111 0 0)), by decide, by decide, rfl, by decide, by decide,
    whole_space rfl _ _ _ (by decide), whole_space rfl _ _ _ (by decide)⟩
theorem witness_FixboArray_refused : ∃ s u : State,
    (s.x[0].toNat ≤ s.x[1].toNat ∧ (s.x[1].toNat - s.x[0].toNat) % 2 = 0 ∧ s.cfg.hostBigEndian = true ∧
      Refuses s s.x[0].toNat (s.x[1].toNat - s.x[0].toNat) false) ∧
    (u.x[0].toNat ≤ u.x[1].toNat ∧ (u.x[1].toNat - u.x[0].toNat) % 2 = 0 ∧ u.cfg.hostBigEndian = true ∧
      Readable u u.x[0].toNat (u.x[1].toNat - u.x[0].toNat) ∧
      Refuses u u.x[0].toNat (u.x[1].toNat - u.x[0].toNat) true) :=
  ⟨shut (bigHost (regs 0 2 0 0)), readOnly (bigHost (regs 0 2 0 0)),
    ⟨by decide, by decide, rfl, 0, by decide, by decide⟩,
    by decide, by decide, rfl, ⟨.inr (by decide), by decide⟩, 0, by decide, by decide⟩

theorem witness_EncLen : (regs 3221225469 0 0 0).x[0].toNat < 3221225470 ∧
    3221225470 ≤ (regs 3221225470 0 0 0).x[0].toNat := by decide
theorem witness_Encode_too_long : 4294967295 < encLen (regs 0 0 3221225470 0).x[2].toNat ∧
    encLen (regs 0 0 3221225469 0).x[2].toNat ≤ 4294967295 := by decide
theorem witness_Encode_bad_ranges : ∀ s ∈ [regs 0x200 0xFFFFFFFF 2 0, regs 0xFFFFFFFD 0 1 0, regs 0x101 0x100 2 0],
    encLen s.x[2].toNat ≤ 4294967295 ∧ ¬ EncodeRangesOk s := by
  intro s hs
  simp only [List.mem_cons, List.not_mem_nil, or_false] at hs
  rcases hs with rfl | rfl | rfl <;> refine ⟨by decide, ?_⟩ <;> unfold EncodeRangesOk InSpace Apart <;> decide
theorem encode_ranges_ok (s : State) (h : s.x = #v[0x200, 0x100, 4, 0, 0, 0, 0, 0]) : EncodeRangesOk s := by
  unfold EncodeRangesOk InSpace Apart; rw [h]; decide
theorem witness_Encode_refused : ∃ s u : State,
    (EncodeRangesOk s ∧ Refuses s s.x[1].toNat s.x[2].toNat false) ∧
    (EncodeRangesOk u ∧ Readable u u.x[1].toNat u.x[2].toNat ∧ Refuses u u.x[0].toNat (encLen u.x[2].toNat) true) :=
  ⟨shut (regs 0x200 0x100 4 0), readOnly (regs 0x200 0x100 4 0),
    ⟨encode_ranges_ok _ rfl, 0, by decide, by decide⟩,
    encode_ranges_ok _ rfl, ⟨.inr (by decide), by decide⟩, 0, by decide, by decide⟩
theorem encode_ready : EncodeReady (place 0x100 [1, 2, 3, 4] (regs 0x200 0x100 4 0)) :=
  ⟨by decide, encode_ranges_ok _ rfl, whole_space rfl _ _ _ (by decide), whole_space rfl _ _ _ (by decide)⟩
theorem witness_Encode : ∃ s : State, EncodeReady s ∧ Memory.wf s.mem = true := ⟨_, encode_ready, by decide⟩

/-- `TWFuTW` at 0x100, to be decoded to 0x200. -/
def encoded : State := place 0x100 [0x54, 0x57, 0x46, 0x75, 0x54, 0x57] (regs 0x200 0x100 6 0)
/-- `TWFuT=W=`: the second group is illegal. -/
def misencoded : State := place 0x100 [0x54, 0x57, 0x46, 0x75, 0x54, 0x3D, 0x57, 0x3D] (regs 0x200 0x100 8 0)

theorem decode_ranges_ok (s : State) (n : Word) (hn : n.toNat ≤ 8)
    (h : s.x = #v[0x200, 0x100, n, 0, 0, 0, 0, 0]) : DecodeRangesOk s := by
  have h0 : s.x[0].toNat = 0x200 := by rw [h]; rfl
  have h1 : s.x[1].toNat = 0x100 := by rw [h]; rfl
  have h2 : s.x[2].toNat = n.toNat := by rw [h]; rfl
  unfold DecodeRangesOk InSpace Apart decLen
  rw [h0, h1, h2]
  omega
theorem witness_Decode_bad_ranges : ¬ DecodeRangesOk (regs 0x100 0x102 4 0) := by
  unfold DecodeRangesOk InSpace Apart; decide
theorem witness_Decode_refused : ∃ s : State, DecodeRangesOk s ∧ Refuses s s.x[1].toNat s.x[2].toNat false :=
  ⟨shut encoded, decode_ranges_ok _ 6 (by decide) rfl, 0, by decide, by decide⟩
theorem encoded_groups_legal (s : State) (hx : s.x = encoded.x) (hm : s.mem = encoded.mem) :
    ∀ g < groupCount s, GroupLegalAt s g := by
  intro g hg
  have h : ∀ i, charAt s i = charAt encoded i := fun i => by simp only [charAt, hx, hm]
  have hc : groupCount s = 2 := by rw [groupCount, hx]; rfl
  have hT : AlphabetChar 0x54 := ⟨19, by decide⟩
  have hW : AlphabetChar 0x57 := ⟨22, by decide⟩
  simp only [GroupLegalAt, h, hc] at hg ⊢
  interval_cases g
  · exact ⟨hT, .inl ⟨hW, ⟨5, by decide⟩, ⟨46, by decide⟩⟩⟩
  · exact ⟨hT, .inr ⟨rfl, .inr (.inl ⟨hW, by decide, by decide⟩)⟩⟩
theorem witness_Decode : ∃ s : State, DecodeRangesOk s ∧ Readable s s.x[1].toNat s.x[2].toNat ∧
    (∀ g < groupCount s, GroupLegalAt s g) ∧
    (∀ k < decodedCount s, memAdmit s.cfg (s.x[0].toNat + k) true = true) ∧ Memory.wf s.mem = true ∧
    decodedCount s = 4 :=
  ⟨encoded, decode_ranges_ok _ 6 (by decide) rfl, whole_space rfl _ _ _ (by decide), encoded_groups_legal _ rfl rfl,
    by decide, by decide, by decide⟩
theorem witness_Decode_refused_kept_byte : ∃ s : State, DecodeRangesOk s ∧ Readable s s.x[1].toNat s.x[2].toNat ∧
    (∀ g < groupCount s, GroupLegalAt s g) ∧ Refuses s s.x[0].toNat (decodedCount s) true :=
  ⟨readOnly encoded, decode_ranges_ok _ 6 (by decide) rfl, ⟨.inr (by decide), by decide⟩, encoded_groups_legal _ rfl rfl,
    3, by decide, by decide⟩
theorem misencoded_groups (s : State) (hx : s.x = misencoded.x) (hm : s.mem = misencoded.mem) :
    1 < groupCount s ∧ (∀ h < 1, GroupLegalAt s h) ∧ ¬ GroupLegalAt s 1 := by
  have hc : ∀ i, charAt s i = charAt misencoded i := fun i => by simp only [charAt, hx, hm]
  refine ⟨by rw [groupCount, hx]; decide, fun h hh => ?_, ?_⟩ <;> simp only [GroupLegalAt, hc]
  · obtain rfl : h = 0 := by omega
    exact ⟨⟨19, by decide⟩, .inl ⟨⟨22, by decide⟩, ⟨5, by decide⟩, ⟨46, by decide⟩⟩⟩
  · rintro ⟨-, ⟨⟨v, hv⟩, -, -⟩ | ⟨-, ⟨⟨v, hv⟩, -, -⟩ | ⟨⟨v, hv⟩, -, -⟩ | ⟨-, hv, -⟩⟩⟩
    · exact absurd hv (by revert v; decide)
    · exact absurd hv (by revert v; decide)
    · exact absurd hv (by revert v; decide)
    · exact absurd hv (by decide)
theorem witness_Decode_illegal_group : ∃ (s : State) (g : Nat), DecodeRangesOk s ∧
    Readable s s.x[1].toNat s.x[2].toNat ∧ (g < groupCount s ∧ (∀ h < g, GroupLegalAt s h) ∧ ¬ GroupLegalAt s g) ∧
    (∀ k < 3 * g, memAdmit s.cfg (s.x[0].toNat + k) true = true) :=
  ⟨misencoded, 1, decode_ranges_ok _ 8 (by decide) rfl, whole_space rfl _ _ _ (by decide), misencoded_groups _ rfl rfl,
    by decide⟩
theorem witness_Decode_illegal_group_refused : ∃ (s : State) (g : Nat), DecodeRangesOk s ∧
    Readable s s.x[1].toNat s.x[2].toNat ∧ (g < groupCount s ∧ (∀ h < g, GroupLegalAt s h) ∧ ¬ GroupLegalAt s g) ∧
    Refuses s s.x[0].toNat (3 * g) true :=
  ⟨readOnly misencoded, 1, decode_ranges_ok _ 8 (by decide) rfl, ⟨.inr (by decide), by decide⟩,
    misencoded_groups _ rfl rfl, 2, by decide, by decide⟩
theorem witness_DecodedCount : ∃ s t : State, s.err = false ∧ 0 < s.x[2].toNat ∧ exec .b64Decode s = .next t ∧
    t.err = false := ⟨encoded, _, rfl, by decide, rfl, by decide +kernel⟩
theorem witness_DecodeUndoesEncode : ∃ (s t u : State) (dest2 : Word), EncodeReady s ∧ Memory.wf s.mem = true ∧
    exec .b64Encode s = .next t ∧
    u = { t with x := ((t.x.set 0 dest2).set 1 s.x[0]).set 2 (BitVec.ofNat 32 (encLen s.x[2].toNat)) } ∧
    DecodeRangesOk u ∧ Readable u s.x[0].toNat (encLen s.x[2].toNat) ∧
    Writable u dest2.toNat (decLen (encLen s.x[2].toNat)) := by
  refine ⟨_, _, _, 0x300#32, encode_ready, by decide, rfl, rfl, ?_, ?_, ?_⟩
  · have h : ∀ x : Vector Word 8,
        (((x.set 0 0x300#32).set 1 0x200#32).set 2 8#32)[0] = 0x300#32 ∧
          (((x.set 0 0x300#32).set 1 0x200#32).set 2 8#32)[1] = 0x200#32 ∧
          (((x.set 0 0x300#32).set 1 0x200#32).set 2 8#32)[2] = 8#32 := fun x => by simp
    obtain ⟨h0, h1, h2⟩ := h (b64EncodeCmd (place 0x100 [1, 2, 3, 4] (regs 0x200 0x100 4 0))).x
    refine ⟨?_, ?_, ?_⟩
    · exact .inr (by decide +kernel)
    · exact .inr (by decide +kernel)
    · exact .inr (.inr (.inl (by decide +kernel)))
  · exact whole_space (by decide +kernel) _ _ _ (by decide)
  · exact whole_space (by decide +kernel) _ _ _ (by decide)

theorem witness_KeyMixes : ∃ key : List Byte, key ≠ [] := ⟨[0x4D], by decide⟩
theorem witness_BfInit_lengths : ∀ s ∈ [regs 0 0 0 0, regs 0 57 0 0], s.x[1].toNat = 0 ∨ 56 < s.x[1].toNat := by decide
theorem witness_BfInit_bad_range : ∃ s : State, 1 ≤ s.x[1].toNat ∧ s.x[1].toNat ≤ 56 ∧
    ¬ InSpace s.x[0].toNat s.x[1].toNat :=
  ⟨regs 0xFFFFFFFF 2 0 0, by decide, by decide, by unfold InSpace; decide⟩
theorem witness_BfInit_refused : ∃ s : State, 1 ≤ s.x[1].toNat ∧ s.x[1].toNat ≤ 56 ∧
    InSpace s.x[0].toNat s.x[1].toNat ∧ Refuses s s.x[0].toNat s.x[1].toNat false :=
  ⟨shut (regs 0x100 1 0 0), by decide, by decide, .inr (by decide), 0, by decide, by decide⟩
theorem witness_BfInit_keys : ∀ s ∈ [regs 0xFFFFFFFF 1 0 0, regs 0x100 56 0 0],
    1 ≤ s.x[1].toNat ∧ s.x[1].toNat ≤ 56 ∧ Readable s s.x[0].toNat s.x[1].toNat := by
  intro s hs
  simp only [List.mem_cons, List.not_mem_nil, or_false] at hs
  rcases hs with rfl | rfl <;> exact ⟨by decide, by decide, whole_space rfl _ _ _ (by decide)⟩
theorem witness_keyed_and_not : State.reset.keyed = false ∧ (keyed State.reset).keyed = true := ⟨rfl, rfl⟩

theorem string_ranges_ok (s : State) (h : s.x = #v[0x200, 16, 0x300, 0, 0, 0, 0, 0]) : StringRangesOk s := by
  unfold StringRangesOk InSpace Apart; rw [h]; decide
theorem string_ready : StringReady (keyed (regs 0x200 16 0x300 0)) :=
  ⟨rfl, string_ranges_ok _ rfl, whole_space rfl _ _ _ (by decide), whole_space rfl _ _ _ (by decide)⟩
theorem witness_String : ∃ s : State, StringReady s ∧ Memory.wf s.mem = true := ⟨_, string_ready, rfl⟩
theorem witness_String_in_place : StringReady (keyed (regs 0x200 16 0x200 0)) :=
  ⟨rfl, by unfold StringRangesOk InSpace Apart; decide, whole_space rfl _ _ _ (by decide),
    whole_space rfl _ _ _ (by decide)⟩
theorem witness_String_length : (keyed (regs 0x200 7 0x300 0)).x[1].toNat % 8 ≠ 0 := by decide
theorem witness_String_bad_ranges : ∀ s ∈ [keyed (regs 0xFFFFFFFC 8 0 0), keyed (regs 0 8 0xFFFFFFF9 0),
      keyed (regs 0x200 16 0x208 0)], s.keyed = true ∧ s.x[1].toNat % 8 = 0 ∧ ¬ StringRangesOk s := by
  intro s hs
  simp only [List.mem_cons, List.not_mem_nil, or_false] at hs
  rcases hs with rfl | rfl | rfl <;> refine ⟨rfl, by decide, ?_⟩ <;> unfold StringRangesOk InSpace Apart <;> decide
theorem witness_String_refused : ∃ s u : State,
    (s.keyed = true ∧ StringRangesOk s ∧ Refuses s s.x[0].toNat s.x[1].toNat false) ∧
    (u.keyed = true ∧ StringRangesOk u ∧ Readable u u.x[0].toNat u.x[1].toNat ∧
      Refuses u u.x[2].toNat u.x[1].toNat true) :=
  ⟨shut (keyed (regs 0x200 16 0x300 0)), readOnly (keyed (regs 0x200 16 0x300 0)),
    ⟨rfl, string_ranges_ok _ rfl, 0, by decide, by decide⟩,
    rfl, string_ranges_ok _ rfl, ⟨.inr (by decide), by decide⟩, 0, by decide, by decide⟩
theorem witness_StringDecryption : ∃ s t u : State, StringReady s ∧ Memory.wf s.mem = true ∧
    exec .bfEncryptString s = .next t ∧ u = { t with x := t.x.set 0 s.x[2] } ∧
    Readable u s.x[2].toNat s.x[1].toNat :=
  ⟨_, _, _, string_ready, rfl, rfl, rfl, whole_space (by decide +kernel) _ _ _ (by decide)⟩

theorem witness_SeedArray_empty : (regs 0 0 0 0).x[1].toNat = 0 := by decide
theorem witness_SeedArray_bad_range : ∃ s : State, 1 ≤ s.x[1].toNat ∧ ¬ InSpace s.x[0].toNat (4 * s.x[1].toNat) :=
  ⟨regs 0xFFFFFFFD 1 0 0, by decide, by unfold InSpace; decide⟩
theorem witness_SeedArray_refused : ∃ s : State, 1 ≤ s.x[1].toNat ∧ InSpace s.x[0].toNat (4 * s.x[1].toNat) ∧
    Refuses s s.x[0].toNat (4 * s.x[1].toNat) false :=
  ⟨shut (regs 0x400 1 0 0), by decide, .inr (by decide), 0, by decide, by decide⟩
theorem witness_SeedArray : ∀ s ∈ [regs 0xFFFFFFFC 1 0 0, regs 0x401 4 0 0, regs 0 0x40000000 0 0],
    1 ≤ s.x[1].toNat ∧ Readable s s.x[0].toNat (4 * s.x[1].toNat) := by
  intro s hs
  simp only [List.mem_cons, List.not_mem_nil, or_false] at hs
  rcases hs with rfl | rfl | rfl <;> exact ⟨by decide, whole_space rfl _ _ _ (by decide)⟩
theorem witness_ArraySeeding : ∃ (key : List Word) (n i : Nat), key ≠ [] ∧ n < max 624 key.length + 623 ∧
    i = 1 + n % 623 ∧ i = 623 := ⟨[0x123], 1245, 623, by decide, by decide, by decide, rfl⟩
theorem witness_Twist : ∃ mix : Word → Word → Word → Word,
    ∀ a b c, mix a b c = c ^^^ (((a &&& 0x80000000#32) ||| (b &&& 0x7FFFFFFF#32)) >>> 1) ^^^
      (if b.getLsbD 0 then 0x9908B0DF#32 else 0#32) := ⟨_, fun _ _ _ => rfl⟩
theorem witness_Rand : ∀ n ∈ [0#32, 623#32, 624#32, 625#32], n.toNat ≤ 625 ∧ ∃ s : State, s.gen.mti = n :=
  fun n hn => ⟨by revert n; simp, ⟨flatGen 7 n State.reset, rfl⟩⟩
theorem witness_Temper : ∃ y0 y1 y2 y3 y4 : Word, y0 = 0x9CB47A9A#32 ∧ y1 = y0 ^^^ (y0 >>> 11) ∧
    y2 = y1 ^^^ ((y1 <<< 7) &&& 0x9D2C5680#32) ∧ y3 = y2 ^^^ ((y2 <<< 15) &&& 0xEFC60000#32) ∧ y4 = y3 ^^^ (y3 >>> 18) :=
  ⟨_, _, _, _, _, rfl, rfl, rfl, rfl, rfl⟩
theorem witness_Rounding : (0 < 24 ∧ 0 < excessBits 24 (2 ^ 24 + 1)) ∧ roundSig 24 (2 ^ 25 - 2) = 2 ^ 25 - 2 ∧
    2 * (2 ^ 24 + 1 - roundSig 24 (2 ^ 24 + 1)) = 2 := by decide +kernel
theorem witness_RandDouble_zero : (draw (flatGen 0 5 State.reset).gen).1.toNat / 32 * 2 ^ 26 +
    (draw (draw (flatGen 0 5 State.reset).gen).2).1.toNat / 64 = 0 := by decide +kernel
theorem witness_RandDouble_positive : 0 < (draw (flatGen 0x9CB47A9A 622 State.reset).gen).1.toNat / 32 * 2 ^ 26 +
    (draw (draw (flatGen 0x9CB47A9A 622 State.reset).gen).2).1.toNat / 64 := by decide +kernel
theorem witness_RandRange : (regs 100 99 0 0).x[1].toInt < (regs 100 99 0 0).x[0].toInt ∧
    (regs 100 100 0 0).x[0].toInt ≤ (regs 100 100 0 0).x[1].toInt ∧
    (regs 0x80000000 0x7FFFFFFF 0 0).x[0].toInt ≤ (regs 0x80000000 0x7FFFFFFF 0 0).x[1].toInt := by decide

theorem witness_Save_short : (regs 0 2499 0 0).x[1].toNat < 2500 := by decide
theorem witness_Save_bad_range : 2500 ≤ (regs 0xFFFFF63D 2500 0 0).x[1].toNat ∧
    ¬ InSpace (regs 0xFFFFF63D 2500 0 0).x[0].toNat 2500 := by unfold InSpace; decide
theorem witness_Save_refused : ∃ s : State, 2500 ≤ s.x[1].toNat ∧ InSpace s.x[0].toNat 2500 ∧
    Refuses s s.x[0].toNat 2500 true := ⟨readOnly (regs 0x1000 2500 0 0), by decide, .inr (by decide), 0, by decide, by decide⟩
theorem witness_Save : ∃ s : State, 2500 ≤ s.x[1].toNat ∧ Writable s s.x[0].toNat 2500 ∧ Memory.wf s.mem = true :=
  ⟨regs 0xFFFFF63C 2500 0 0, by decide, whole_space rfl _ _ _ (by decide), rfl⟩
theorem witness_Restore_bad_range : ¬ InSpace (regs 0xFFFFF63D 0 0 0).x[0].toNat 2500 := by unfold InSpace; decide
theorem witness_Restore_refused : ∃ s : State, InSpace s.x[0].toNat 2500 ∧ Refuses s s.x[0].toNat 2500 false :=
  ⟨shut (regs 0x1000 0 0 0), .inr (by decide), 2499, by decide, by decide⟩
theorem witness_Restore_cursors : ∃ s u : State,
    (Readable s s.x[0].toNat 2500 ∧ wordAt s (s.x[0].toNat + 2496) = 626#32) ∧
    (Readable u u.x[0].toNat 2500 ∧ wordAt u (u.x[0].toNat + 2496) = 625#32) :=
  ⟨place 0x19C0 [0x72, 0x02] (regs 0x1000 0 0 0), place 0x19C0 [0x71, 0x02] (regs 0x1000 0 0 0),
    ⟨whole_space rfl _ _ _ (by decide), by decide⟩, whole_space rfl _ _ _ (by decide), by decide⟩
theorem witness_RestoreBrings : ∃ s t u : State, s.gen.mti.toNat ≤ 625 ∧ 2500 ≤ s.x[1].toNat ∧
    Writable s s.x[0].toNat 2500 ∧ Memory.wf s.mem = true ∧ exec .mtSave s = .next t ∧ u.mem = t.mem ∧
    u.x[0] = s.x[0] ∧ Readable u s.x[0].toNat 2500 :=
  ⟨regs 0x1000 2500 0 0, _, { regs 0x1000 0 0 0 with mem := (mtSave (regs 0x1000 2500 0 0)).mem }, by decide, by decide,
    whole_space rfl _ _ _ (by decide), rfl, rfl, rfl, rfl, whole_space rfl _ _ _ (by decide)⟩
theorem witness_Draws : ∃ (cs : List (Vector Word 8 × Instr)) (s s' : State), cs.length = 2 ∧
    (∀ c ∈ cs, c.2 ∈ [Instr.mtSeed, .mtRand32, .mtRandFloat, .mtRandDouble, .mtRandRange]) ∧ s ≠ s' ∧ s.gen = s'.gen :=
  ⟨[(Vector.replicate 8 1#32, .mtSeed), (Vector.replicate 8 0#32, .mtRandRange)], State.reset,
    { State.reset with ticket := 2 }, rfl, by simp, fun h => absurd (congrArg State.ticket h) (by decide), rfl⟩

end Sys2Proof.Tests
end

/-! ## Engines share no state (R6)

One law carries the statement: putting the internal state of one engine into a machine and then running a command of
another engine gives what the command gives first, with that state put in afterwards. That the command leaves the state
alone is the same law for the state that the machine already holds. -/

namespace Sys2Proof.Machine

/-! ### The internal state of an engine, as a value -/

/-- The internal state of one of the two engines that have any (R6): `P`, `S` and `KEYED`, or `mt` and `mti`. -/
inductive EngineState where
  | blowfish (sc : Schedule) (k : Bool)
  | mersenne (g : Generator)

namespace EngineState

variable {e : EngineState}

/-- Whose state it is. -/
def engine : EngineState → Engine
  | blowfish _ _ => .blowfish
  | mersenne _   => .mersenne

/-- The machine with this as that engine's state. -/
def putIn (e : EngineState) (s : State) : State :=
  match e with
  | blowfish sc k => { s with sched := sc, keyed := k }
  | mersenne g    => { s with gen := g }

@[simp] theorem putIn_cfg (e : EngineState) (s : State) : (e.putIn s).cfg = s.cfg := by cases e <;> rfl
@[simp] theorem putIn_x (e : EngineState) (s : State) : (e.putIn s).x = s.x := by cases e <;> rfl
@[simp] theorem putIn_mem (e : EngineState) (s : State) : (e.putIn s).mem = s.mem := by cases e <;> rfl

/-! ### The other engine's state -/

theorem putIn_sched (h : Engine.blowfish ≠ e.engine) (s : State) : (e.putIn s).sched = s.sched := by
  cases e with
  | blowfish => exact absurd rfl h
  | mersenne => rfl

theorem putIn_keyed (h : Engine.blowfish ≠ e.engine) (s : State) : (e.putIn s).keyed = s.keyed := by
  cases e with
  | blowfish => exact absurd rfl h
  | mersenne => rfl

theorem putIn_gen (h : Engine.mersenne ≠ e.engine) (s : State) : (e.putIn s).gen = s.gen := by
  cases e with
  | blowfish => rfl
  | mersenne => exact absurd rfl h

theorem setBlowfish_putIn (h : Engine.blowfish ≠ e.engine) (sc : Schedule) (k : Bool) (s : State) :
    { e.putIn s with sched := sc, keyed := k } = e.putIn { s with sched := sc, keyed := k } := by
  cases e with
  | blowfish => exact absurd rfl h
  | mersenne => rfl

theorem setGen_putIn (h : Engine.mersenne ≠ e.engine) (g : Generator) (s : State) :
    { e.putIn s with gen := g } = e.putIn { s with gen := g } := by
  cases e with
  | blowfish => rfl
  | mersenne => exact absurd rfl h

/-! ### The shared operations

None of them looks at an engine's state, and none writes one but `midFault`, the state of the command's own engine. -/

@[simp] theorem setX_putIn (e : EngineState) (r : Fin 8) (v : Word) (s : State) :
    setX r v (e.putIn s) = e.putIn (setX r v s) := by cases e <;> rfl
@[simp] theorem setPair0_putIn (e : EngineState) (v : BitVec 64) (s : State) :
    setPair0 v (e.putIn s) = e.putIn (setPair0 v s) := by cases e <;> rfl
@[simp] theorem finish_putIn (e : EngineState) (s : State) : finish (e.putIn s) = e.putIn (finish s) := by
  cases e <;> rfl
@[simp] theorem raise_putIn (e : EngineState) (c : FaultCode) (s : State) :
    raise c (e.putIn s) = e.putIn (raise c s) := by cases e <;> rfl
@[simp] theorem pair0_putIn (e : EngineState) (s : State) : pair0 (e.putIn s) = pair0 s := by cases e <;> rfl

@[simp] theorem loadBytes_putIn (e : EngineState) (s : State) (a n : Nat) :
    loadBytes (e.putIn s) a n = loadBytes s a n := by simp only [loadBytes, putIn_cfg, putIn_mem]

@[simp] theorem storeBytes_putIn (e : EngineState) (s : State) (a : Nat) (bs : List Byte) :
    storeBytes (e.putIn s) a bs = (storeBytes s a bs).map e.putIn := by
  simp only [storeBytes, putIn_cfg]
  split
  · cases e <;> rfl
  · rfl

@[simp] theorem writeRanges_putIn (e : EngineState) (i : Instr) (s : State) :
    writeRanges i (e.putIn s) = writeRanges i s := by
  cases i <;> simp only [writeRanges, swapRange, decodeReach, putIn_x, putIn_cfg, loadBytes_putIn]

theorem freeEngine_putIn {own : Engine} (h : own ≠ e.engine) (t : Nat) (s : State) :
    freeEngine t own (e.putIn s) = e.putIn (freeEngine t own s) := by
  cases own with
  | blowfish => exact setBlowfish_putIn h _ _ s
  | mersenne => exact setGen_putIn h _ s
  | base64 => rfl
  | byteOrder => rfl

/-- A fault in the memory accesses frees no engine's state but that of the command's own (R196). -/
theorem midFault_putIn {i : Instr} (h : engineOf i ≠ e.engine) (c : FaultCode) (s : State) :
    midFault c i (e.putIn s) = e.putIn (midFault c i s) := by
  have hfree := freeEngine_putIn h s.ticket { s with mem := freeRanges s.ticket s.mem (writeRanges i s) }
  simp only [midFault, spoil, writeRanges_putIn, putIn_mem]
  cases e with
  | blowfish => exact congrArg (fun u => raise c { u with ticket := s.ticket + 1 }) hfree
  | mersenne => exact congrArg (fun u => raise c { u with ticket := s.ticket + 1 }) hfree

/-! ### The Base64 commands -/

theorem b64EncLen_putIn (e : EngineState) (s : State) : b64EncLen (e.putIn s) = e.putIn (b64EncLen s) := by
  simp only [b64EncLen, putIn_x, setX_putIn, finish_putIn, raise_putIn, apply_ite e.putIn]

theorem b64DecLen_putIn (e : EngineState) (s : State) : b64DecLen (e.putIn s) = e.putIn (b64DecLen s) := by
  simp only [b64DecLen, putIn_x, setX_putIn, finish_putIn]

theorem b64EncodeCmd_putIn (h : Engine.base64 ≠ e.engine) (s : State) :
    b64EncodeCmd (e.putIn s) = e.putIn (b64EncodeCmd s) := by
  have hfault := midFault_putIn (i := .b64Encode) h .busError s
  simp only [b64EncodeCmd, putIn_x, raise_putIn, loadBytes_putIn, storeBytes_putIn, hfault, apply_ite e.putIn]
  congr! 4
  cases loadBytes s s.x[1].toNat s.x[2].toNat with
  | none => rfl
  | some bs =>
    dsimp only
    cases storeBytes s s.x[0].toNat (b64Encode bs) with
    | none => rfl
    | some s' => simp only [Option.map_some, setX_putIn, finish_putIn]

theorem b64DecodeCmd_putIn (h : Engine.base64 ≠ e.engine) (s : State) :
    b64DecodeCmd (e.putIn s) = e.putIn (b64DecodeCmd s) := by
  have hfault (c : FaultCode) := midFault_putIn (i := .b64Decode) h c s
  simp only [b64DecodeCmd, putIn_x, raise_putIn, loadBytes_putIn, storeBytes_putIn, hfault, apply_ite e.putIn]
  congr! 3
  cases loadBytes s s.x[1].toNat s.x[2].toNat with
  | none => rfl
  | some cs =>
    dsimp only
    cases storeBytes s s.x[0].toNat (b64Decode cs).1 with
    | none => rfl
    | some s' => simp only [Option.map_some, setX_putIn, finish_putIn, apply_ite e.putIn]

/-! ### The byte-order commands -/

theorem onRegister_putIn (e : EngineState) (f : Nat → Nat → Nat) (sz : Nat) (s : State) :
    onRegister f sz (e.putIn s) = e.putIn (onRegister f sz s) := by
  simp only [onRegister, putIn_x, pair0_putIn, setX_putIn, setPair0_putIn, apply_ite e.putIn]

theorem bswap_putIn (e : EngineState) (sz : Nat) (s : State) : bswap sz (e.putIn s) = e.putIn (bswap sz s) := by
  simp only [bswap, onRegister_putIn, finish_putIn]

theorem fixbo_putIn (e : EngineState) (sz : Nat) (s : State) : fixbo sz (e.putIn s) = e.putIn (fixbo sz s) := by
  simp only [fixbo, putIn_cfg, onRegister_putIn, finish_putIn]

theorem fixboArray_putIn {i : Instr} (h : engineOf i ≠ e.engine) (sz : Nat) (s : State) :
    fixboArray i sz (e.putIn s) = e.putIn (fixboArray i sz s) := by
  have hfault := midFault_putIn h .busError s
  simp only [fixboArray, putIn_cfg, putIn_x, raise_putIn, finish_putIn, loadBytes_putIn, storeBytes_putIn, hfault,
    apply_ite e.putIn]
  congr! 3
  cases loadBytes s s.x[0].toNat (s.x[1].toNat - s.x[0].toNat) with
  | none => rfl
  | some bs =>
    dsimp only
    cases storeBytes s s.x[0].toNat (swapElements sz ((s.x[1].toNat - s.x[0].toNat) / sz) bs) with
    | none => rfl
    | some s' => simp only [Option.map_some, finish_putIn]

/-! ### The Blowfish commands, beside the Mersenne-Twister engine -/

theorem bfInit_putIn (h : Engine.blowfish ≠ e.engine) (s : State) : bfInit (e.putIn s) = e.putIn (bfInit s) := by
  have hfault := midFault_putIn (i := .bfInit) h .busError s
  simp only [bfInit, ↓setBlowfish_putIn h, putIn_x, finish_putIn, raise_putIn, loadBytes_putIn, hfault, apply_ite e.putIn]
  congr! 2
  cases loadBytes s s.x[0].toNat s.x[1].toNat with
  | none => rfl
  | some key => rfl

theorem bfBlock_putIn (h : Engine.blowfish ≠ e.engine) (f : Schedule → Word → Word → Word × Word) (s : State) :
    bfBlock f (e.putIn s) = e.putIn (bfBlock f s) := by
  simp only [bfBlock, putIn_keyed h, putIn_sched h, putIn_x, setX_putIn, finish_putIn, raise_putIn, apply_ite e.putIn]

theorem bfString_putIn {i : Instr} (hi : engineOf i = .blowfish) (h : Engine.blowfish ≠ e.engine)
    (f : Schedule → Word → Word → Word × Word) (s : State) :
    bfString i f (e.putIn s) = e.putIn (bfString i f s) := by
  have hfault := midFault_putIn (hi ▸ h) .busError s
  simp only [bfString, putIn_keyed h, putIn_sched h, putIn_cfg, putIn_x, raise_putIn, loadBytes_putIn,
    storeBytes_putIn, hfault, apply_ite e.putIn]
  congr! 5
  cases loadBytes s s.x[0].toNat s.x[1].toNat with
  | none => rfl
  | some bs =>
    dsimp only
    cases storeBytes s s.x[2].toNat (onBlocks s.cfg.wordOrder (f s.sched) bs) with
    | none => rfl
    | some s' => simp only [Option.map_some, setX_putIn, finish_putIn]

/-! ### The Mersenne-Twister commands, beside the Blowfish engine -/

theorem mtSeed_putIn (h : Engine.mersenne ≠ e.engine) (s : State) : mtSeed (e.putIn s) = e.putIn (mtSeed s) := by
  simp only [mtSeed, ↓setGen_putIn h, putIn_x, finish_putIn]

theorem mtSeedArray_putIn (h : Engine.mersenne ≠ e.engine) (s : State) :
    mtSeedArray (e.putIn s) = e.putIn (mtSeedArray s) := by
  have hfault := midFault_putIn (i := .mtSeedArray) h .busError s
  simp only [mtSeedArray, ↓setGen_putIn h, putIn_x, finish_putIn, raise_putIn, loadBytes_putIn, hfault, apply_ite e.putIn]
  congr! 2
  cases loadBytes s s.x[0].toNat (4 * s.x[1].toNat) with
  | none => rfl
  | some bs => rfl

theorem mtRand32_putIn (h : Engine.mersenne ≠ e.engine) (s : State) :
    mtRand32 (e.putIn s) = e.putIn (mtRand32 s) := by
  simp only [mtRand32, putIn_gen h, setGen_putIn h, setX_putIn, finish_putIn]

theorem mtRandFloat_putIn (h : Engine.mersenne ≠ e.engine) (s : State) :
    mtRandFloat (e.putIn s) = e.putIn (mtRandFloat s) := by
  simp only [mtRandFloat, putIn_gen h, setGen_putIn h, setX_putIn, finish_putIn]

theorem mtRandDouble_putIn (h : Engine.mersenne ≠ e.engine) (s : State) :
    mtRandDouble (e.putIn s) = e.putIn (mtRandDouble s) := by
  simp only [mtRandDouble, putIn_gen h, setGen_putIn h, setPair0_putIn, finish_putIn]

theorem mtRandRange_putIn (h : Engine.mersenne ≠ e.engine) (s : State) :
    mtRandRange (e.putIn s) = e.putIn (mtRandRange s) := by
  simp only [mtRandRange, ↓setGen_putIn h, putIn_x, putIn_gen h, setX_putIn, finish_putIn, raise_putIn,
    apply_ite e.putIn]

theorem mtSave_putIn (h : Engine.mersenne ≠ e.engine) (s : State) : mtSave (e.putIn s) = e.putIn (mtSave s) := by
  have hfault := midFault_putIn (i := .mtSave) h .busError s
  simp only [mtSave, putIn_x, putIn_gen h, setX_putIn, finish_putIn, raise_putIn, storeBytes_putIn, hfault,
    apply_ite e.putIn]
  congr! 2
  cases storeBytes s s.x[0].toNat (blobOf s.gen) with
  | none => rfl
  | some s' => simp only [Option.map_some, setX_putIn, finish_putIn]

theorem mtRestore_putIn (h : Engine.mersenne ≠ e.engine) (s : State) :
    mtRestore (e.putIn s) = e.putIn (mtRestore s) := by
  have hfault (c : FaultCode) := midFault_putIn (i := .mtRestore) h c s
  simp only [mtRestore, ↓setGen_putIn h, putIn_x, finish_putIn, raise_putIn, loadBytes_putIn, hfault,
    apply_ite e.putIn]
  refine ite_congr rfl (fun _ => rfl) fun _ => ?_
  cases loadBytes s s.x[0].toNat blobBytes with
  | none => rfl
  | some bs => simp only [apply_ite e.putIn]

/-! ### Every command -/

/-- A command's own law, carried to the next state that `exec` answers. -/
theorem next_putIn {f : State → State} {s t : State} (hf : f (e.putIn s) = e.putIn (f s))
    (ht : (.next (f s) : Host.Outcome State Fault Refusal) = .next t) :
    (.next (f (e.putIn s)) : Host.Outcome State Fault Refusal) = .next (e.putIn t) := by
  cases ht
  rw [hf]

/-- A command run beside another engine's state, whatever it is, gives the next state it gives otherwise, with that
state put in. -/
theorem exec_putIn {i : Instr} {s t : State} (h : engineOf i ≠ e.engine) (ht : exec i s = .next t) :
    exec i (e.putIn s) = .next (e.putIn t) := by
  cases i with
  | bfInit => exact next_putIn (bfInit_putIn h s) ht
  | bfEncrypt => exact next_putIn (bfBlock_putIn h bfE s) ht
  | bfDecrypt => exact next_putIn (bfBlock_putIn h bfD s) ht
  | bfEncryptString => exact next_putIn (bfString_putIn rfl h bfE s) ht
  | bfDecryptString => exact next_putIn (bfString_putIn rfl h bfD s) ht
  | mtSeed => exact next_putIn (mtSeed_putIn h s) ht
  | mtSeedArray => exact next_putIn (mtSeedArray_putIn h s) ht
  | mtRand32 => exact next_putIn (mtRand32_putIn h s) ht
  | mtRandFloat => exact next_putIn (mtRandFloat_putIn h s) ht
  | mtRandDouble => exact next_putIn (mtRandDouble_putIn h s) ht
  | mtRandRange => exact next_putIn (mtRandRange_putIn h s) ht
  | mtSave => exact next_putIn (mtSave_putIn h s) ht
  | mtRestore => exact next_putIn (mtRestore_putIn h s) ht
  | b64EncLen => exact next_putIn (b64EncLen_putIn e s) ht
  | b64Encode => exact next_putIn (b64EncodeCmd_putIn h s) ht
  | b64DecLen => exact next_putIn (b64DecLen_putIn e s) ht
  | b64Decode => exact next_putIn (b64DecodeCmd_putIn h s) ht
  | bswap1 => exact next_putIn (bswap_putIn e 1 s) ht
  | bswap2 => exact next_putIn (bswap_putIn e 2 s) ht
  | bswap4 => exact next_putIn (bswap_putIn e 4 s) ht
  | bswap8 => exact next_putIn (bswap_putIn e 8 s) ht
  | fixbo1 => exact next_putIn (fixbo_putIn e 1 s) ht
  | fixbo2 => exact next_putIn (fixbo_putIn e 2 s) ht
  | fixbo4 => exact next_putIn (fixbo_putIn e 4 s) ht
  | fixbo8 => exact next_putIn (fixbo_putIn e 8 s) ht
  | fixboArray1 => exact next_putIn (fixboArray_putIn h 1 s) ht
  | fixboArray2 => exact next_putIn (fixboArray_putIn h 2 s) ht
  | fixboArray4 => exact next_putIn (fixboArray_putIn h 4 s) ht
  | fixboArray8 => exact next_putIn (fixboArray_putIn h 8 s) ht

/-- State put in where the machine already holds it is there after the command too. -/
theorem exec_keeps {i : Instr} {s t : State} (h : engineOf i ≠ e.engine) (ht : exec i s = .next t)
    (hs : e.putIn s = s) : e.putIn t = t := by
  have hrun := exec_putIn h ht
  rw [hs, ht] at hrun
  exact (Host.Outcome.next.inj hrun).symm

end EngineState

/-- Every command answers a next state. -/
theorem exec_isNext (i : Instr) (s : State) : ∃ t, exec i s = .next t := by
  cases i <;> exact ⟨_, rfl⟩

/-- Settles O11: the law of putting an engine's state in, for any state and for the state already held. -/
theorem enginesShareNoState : Obligations.EnginesShareNoState := by
  unfold Obligations.EnginesShareNoState
  intro i s
  obtain ⟨t, ht⟩ := exec_isNext i s
  refine ⟨t, ht, fun hi => ⟨?_, fun sc k => ?_⟩, fun hi => ⟨?_, fun g => ?_⟩⟩
  · have hkeep := EngineState.exec_keeps (e := .blowfish s.sched s.keyed) hi ht rfl
    exact ⟨(congrArg State.sched hkeep).symm, (congrArg State.keyed hkeep).symm⟩
  · exact EngineState.exec_putIn (e := .blowfish sc k) hi ht
  · have hkeep := EngineState.exec_keeps (e := .mersenne s.gen) hi ht rfl
    exact (congrArg State.gen hkeep).symm
  · exact EngineState.exec_putIn (e := .mersenne g) hi ht

end Sys2Proof.Machine

/-! ## STATUS bit by bit (R24, R33) and the state after reset (R36) -/

namespace Sys2Proof.Machine

/-- A Bool set as bit `k` of a word shows at bit `k` and nowhere else. -/
theorem getLsbD_bitAt {j : Nat} (hj : j < 32) (k : Nat) (b : Bool) :
    (bitAt k b).getLsbD j = (b && decide (j = k)) := by
  cases b with
  | false => exact BitVec.getLsbD_zero
  | true =>
    have hplace : k < 32 ∧ k = j ↔ j = k := by omega
    calc (BitVec.twoPow 32 k).getLsbD j
      _ = (decide (k < 32) && decide (k = j)) := BitVec.getLsbD_twoPow k j
      _ = (true && decide (j = k)) := by simp only [← Bool.decide_and, hplace, Bool.true_and]

/-- Bit 3 of STATUS is MT_SEEDED: ERRCODE lies above it, and every other flag below it (R24). -/
theorem getLsbD_status_three (s : State) : s.status.getLsbD 3 = s.mtSeeded := by
  have hbit (k : Nat) (b : Bool) : (bitAt k b).getLsbD 3 = (b && decide (3 = k)) := getLsbD_bitAt (by decide) k b
  have herrcode : (s.errcode.setWidth 32 <<< 8).getLsbD 3 = false := by simp
  simp only [State.status, BitVec.getLsbD_or, herrcode, hbit]
  simp

theorem mtSeeded_eq_true_iff (s : State) : s.mtSeeded = true ↔ s.gen.mti ≠ 625#32 := bne_iff_ne

/-- Settles O19: bit 3 of STATUS is MT_SEEDED, which compares the cursor with 625. -/
theorem seededBitFollowsTheCursor : Obligations.SeededBitFollowsTheCursor := by
  unfold Obligations.SeededBitFollowsTheCursor
  intro s
  rw [getLsbD_status_three, mtSeeded_eq_true_iff]

/-- STATUS reads 0 when no fault is recorded, no command runs, no key is set and the generator is unseeded (R24). -/
theorem status_eq_zero {s : State} (herr : s.err = false) (hcode : s.errcode = 0#8) (hrun : s.running = none)
    (hkey : s.keyed = false) (hcursor : s.gen.mti = 625#32) : s.status = 0#32 := by
  simp [State.status, State.mtSeeded, State.busy, bitAt, herr, hcode, hrun, hkey, hcursor]

/-- Settles O10: the fields stand in `State.resetWith`, and STATUS, computed from them, is 0. -/
theorem resetStateHoldsTheTableValues : Obligations.ResetStateHoldsTheTableValues := by
  unfold Obligations.ResetStateHoldsTheTableValues
  intro c
  have hstatus : (State.resetWith c).status = 0#32 := status_eq_zero rfl rfl rfl rfl rfl
  have hregs (r : Fin 8) : (State.resetWith c).x[r] = 0#32 := Vector.getElem_replicate r.isLt
  exact ⟨rfl, hstatus, hregs, rfl, rfl, rfl⟩

end Sys2Proof.Machine

/-! ## Illegal command words (R71, R72, R76)

A word that decodes has well-formed fields, and each kind of illegal word fails one of the three checks on the fields,
so it does not decode; a command in progress whose word does not decode ends by `ILLEGAL_CMD`. -/

namespace Sys2Proof

/-! ### The fields of a word and their checks, as numbers -/

@[simp] theorem fieldsOf_op_toNat (w : Word) : (fieldsOf w).op.toNat = w.toNat % 256 := by
  simp [fieldsOf, BitVec.extractLsb'_toNat]

@[simp] theorem fieldsOf_sz_toNat (w : Word) : (fieldsOf w).sz.toNat = w.toNat / 256 % 16 := by
  simp [fieldsOf, BitVec.extractLsb'_toNat, Nat.shiftRight_eq_div_pow]

/-- RSV is the top field, so no modulus is left of its extraction. -/
@[simp] theorem fieldsOf_rsv_toNat (w : Word) : (fieldsOf w).rsv.toNat = w.toNat / 4096 := by
  simp only [fieldsOf, BitVec.extractLsb'_toNat, Nat.shiftRight_eq_div_pow]
  omega

theorem byteOrderOp_iff (op : BitVec 8) : byteOrderOp op = true ↔ op.toNat ∈ [0x30, 0x31, 0x32] := by
  simp [byteOrderOp, BitVec.toNat_eq, or_assoc]

theorem assignedOp_iff (op : BitVec 8) : assignedOp op = true ↔
    (0x01 ≤ op.toNat ∧ op.toNat ≤ 0x05) ∨ (0x10 ≤ op.toNat ∧ op.toNat ≤ 0x17) ∨
      (0x20 ≤ op.toNat ∧ op.toNat ≤ 0x23) ∨ op.toNat ∈ [0x30, 0x31, 0x32] := by
  simp only [assignedOp, Bool.or_eq_true, decide_eq_true_eq, byteOrderOp_iff, or_assoc]

namespace CommandFields

theorem rsvOk_iff (f : CommandFields) : f.rsvOk = true ↔ f.rsv.toNat = 0 := by
  simp [rsvOk, BitVec.toNat_eq]

theorem szOk_iff_of_byteOrder {f : CommandFields} (h : f.op.toNat ∈ [0x30, 0x31, 0x32]) :
    f.szOk = true ↔ f.sz.toNat ∈ [1, 2, 4, 8] := by
  simp [szOk, (byteOrderOp_iff f.op).2 h, BitVec.toNat_eq, or_assoc]

theorem szOk_iff_of_plain {f : CommandFields} (h : f.op.toNat ∉ [0x30, 0x31, 0x32]) :
    f.szOk = true ↔ f.sz.toNat = 0 := by
  simp [szOk, mt (byteOrderOp_iff f.op).1 h, BitVec.toNat_eq]

theorem wellFormed_iff (f : CommandFields) :
    f.wellFormed = true ↔ f.rsvOk = true ∧ f.opOk = true ∧ f.szOk = true := by
  simp only [wellFormed, Bool.and_eq_true, and_assoc]

end CommandFields

/-! ### A word that decodes has well-formed fields -/

theorem plainOp_assigned {op : BitVec 8} {i : Instr} (h : plainOp op = some i) : assignedOp op = true := by
  rw [assignedOp_iff]
  unfold plainOp at h
  split at h <;> simp_all

theorem sizedOp_size {op : BitVec 8} {sz : BitVec 4} {i : Instr} (h : sizedOp op sz = some i) :
    sz.toNat ∈ [1, 2, 4, 8] := by
  unfold sizedOp at h
  split at h <;> simp_all

/-- What decoding to a command says of the fields (R72): RSV is 0, and the command is that of a byte-order opcode with
its size, or that of another opcode with size 0. -/
theorem decode_eq_ok_iff (w : Word) (i : Instr) : decode w = .ok i ↔ (fieldsOf w).rsv = 0#20 ∧
    ((byteOrderOp (fieldsOf w).op = true ∧ sizedOp (fieldsOf w).op (fieldsOf w).sz = some i) ∨
      (byteOrderOp (fieldsOf w).op = false ∧ plainOp (fieldsOf w).op = some i ∧ (fieldsOf w).sz = 0#4)) := by
  by_cases hrsv : (fieldsOf w).rsv = 0#20
  · cases hbo : byteOrderOp (fieldsOf w).op with
    | true => cases hi : sizedOp (fieldsOf w).op (fieldsOf w).sz <;> simp [decode, hrsv, hbo, hi]
    | false =>
      cases hi : plainOp (fieldsOf w).op with
      | none => simp [decode, hrsv, hbo, hi]
      | some j => by_cases hsz : (fieldsOf w).sz = 0#4 <;> simp [decode, hrsv, hbo, hi, hsz]
  · simp [decode, hrsv]

theorem wellFormed_of_decode {w : Word} {i : Instr} (h : decode w = .ok i) : (fieldsOf w).wellFormed = true := by
  obtain ⟨hrsv, hcommand⟩ := (decode_eq_ok_iff w i).1 h
  have hrsvOk : (fieldsOf w).rsvOk = true := by simp [CommandFields.rsvOk, hrsv]
  rw [CommandFields.wellFormed_iff]
  rcases hcommand with ⟨hbo, hi⟩ | ⟨hbo, hi, hsz⟩
  · have hopOk : (fieldsOf w).opOk = true := by simp [CommandFields.opOk, assignedOp, hbo]
    exact ⟨hrsvOk, hopOk, (CommandFields.szOk_iff_of_byteOrder ((byteOrderOp_iff _).1 hbo)).2 (sizedOp_size hi)⟩
  · have hszOk : (fieldsOf w).szOk = true := by simp [CommandFields.szOk, hbo, hsz]
    exact ⟨hrsvOk, plainOp_assigned hi, hszOk⟩

theorem decode_error_of_not_wellFormed {w : Word} (h : (fieldsOf w).wellFormed ≠ true) :
    ∃ e, decode w = .error e := by
  cases hd : decode w with
  | error e => exact ⟨e, rfl⟩
  | ok i => exact absurd (wellFormed_of_decode hd) h

end Sys2Proof

namespace Sys2Proof.Machine

/-- R72: a command in progress whose word does not decode ends by `ILLEGAL_CMD`, raced or not. -/
theorem step_of_illegal_word {s : State} {r : Running} {e : DecodeError} (hrun : s.running = some r)
    (hleft : r.left = 0) (hd : decode s.cmd = .error e) : step s = .next (raise .illegalCmd s) := by
  simp [step, advance, endCommand, commandOf, hrun, hleft, hd]

/-- Settles O4: each kind of illegal word fails the check of one field, so it does not decode. -/
theorem illegalWordsRaiseIllegalCmd : Obligations.IllegalWordsRaiseIllegalCmd := by
  unfold Obligations.IllegalWordsRaiseIllegalCmd
  intro s r hrun hleft hillegal
  have hbad : (fieldsOf s.cmd).wellFormed ≠ true := by
    rw [Ne, CommandFields.wellFormed_iff]
    rintro ⟨hrsv, hop, hsz⟩
    rcases hillegal with hreserved | ⟨hbo, hsize⟩ | ⟨hplain, hsize⟩ | hunassigned
    · rw [CommandFields.rsvOk_iff, fieldsOf_rsv_toNat] at hrsv
      exact hreserved hrsv
    · rw [CommandFields.szOk_iff_of_byteOrder (by rwa [fieldsOf_op_toNat]), fieldsOf_sz_toNat] at hsz
      exact hsize hsz
    · rw [CommandFields.szOk_iff_of_plain (by rwa [fieldsOf_op_toNat]), fieldsOf_sz_toNat] at hsz
      exact hsize hsz
    · have hassigned := (assignedOp_iff _).1 hop
      simp only [fieldsOf_op_toNat, List.mem_cons, List.not_mem_nil, or_false] at hassigned
      omega
  obtain ⟨e, hd⟩ := decode_error_of_not_wellFormed hbad
  exact ⟨raise .illegalCmd s, step_of_illegal_word hrun hleft hd, raise_faultsCleanly .illegalCmd s⟩

end Sys2Proof.Machine

/-! ## Byte order (R90 to R94)

REV is read off one byte at a time (`rev_byte`) and split in two (`rev_add`); BSWAP and FIXBO are those facts on the
registers, FIXBO_ARRAY the same reversal on every element of a list of bytes. -/

namespace Sys2Proof.Machine

/-! ### Little-endian byte lists -/

/-- Byte `k` of a composed value. -/
theorem leValue_byte (bs : List Byte) (k : Nat) (h : k < bs.length) :
    leValue bs / 256 ^ k % 256 = bs[k].toNat := by
  induction bs generalizing k with
  | nil => exact absurd h (Nat.not_lt_zero k)
  | cons b bs ih =>
    have hb : b.toNat < 256 := b.isLt
    cases k with
    | zero => simp only [leValue, List.getElem_cons_zero]; omega
    | succ k =>
      have htail : (b.toNat + 256 * leValue bs) / 256 = leValue bs := by omega
      rw [leValue, Nat.pow_succ', ← Nat.div_div_eq_div_mul, htail, List.getElem_cons_succ]
      exact ih k (Nat.lt_of_succ_lt_succ h)

/-- Taking the bytes of a composed value gives the list back. -/
theorem leBytes_leValue (bs : List Byte) : leBytes bs.length (leValue bs) = bs := by
  induction bs with
  | nil => rfl
  | cons b bs ih =>
    have hb : b.toNat < 256 := b.isLt
    have htail : (b.toNat + 256 * leValue bs) / 256 = leValue bs := by omega
    have hhead : BitVec.ofNat 8 (b.toNat + 256 * leValue bs) = b := by
      apply BitVec.eq_of_toNat_eq
      rw [BitVec.toNat_ofNat]
      omega
    rw [List.length_cons, leBytes, leValue, htail, hhead, ih]

theorem leValue_append (as bs : List Byte) :
    leValue (as ++ bs) = leValue as + 256 ^ as.length * leValue bs := by
  induction as with
  | nil => simp [leValue]
  | cons a as ih => simp only [List.cons_append, leValue, ih, List.length_cons, Nat.pow_succ']; ring

theorem leBytes_add (m n v : Nat) : leBytes (m + n) v = leBytes m v ++ leBytes n (v / 256 ^ m) := by
  induction m generalizing v with
  | zero => simp [leBytes]
  | succ m ih =>
    rw [Nat.succ_add, leBytes, leBytes, ih, Nat.div_div_eq_div_mul, ← Nat.pow_succ', List.cons_append]

/-! ### REV (R90) -/

theorem rev_lt (n v : Nat) : rev n v < 256 ^ n := by
  simpa [rev] using leValue_lt (leBytes n v).reverse

/-- R90's law of bytes, with the zeros above the value. -/
theorem rev_byte (n v k : Nat) :
    rev n v / 256 ^ k % 256 = if k < n then v / 256 ^ (n - 1 - k) % 256 else 0 := by
  split_ifs with h
  · rw [rev, leValue_byte _ k (by simpa using h), List.getElem_reverse, getElem_leBytes, length_leBytes,
      BitVec.toNat_ofNat]
  · have hsmall : rev n v < 256 ^ k := (rev_lt n v).trans_le (Nat.pow_le_pow_right (by decide) (Nat.le_of_not_lt h))
    rw [Nat.div_eq_of_lt hsmall]

/-- The bytes of a reversed value are the value's bytes in reverse. -/
theorem leBytes_rev (n v : Nat) : leBytes n (rev n v) = (leBytes n v).reverse := by
  simpa [rev] using leBytes_leValue (leBytes n v).reverse

theorem rev_rev (n v : Nat) : rev n (rev n v) = v % 256 ^ n := by
  rw [rev, leBytes_rev, List.reverse_reverse, leValue_leBytes]

/-- REV looks at the low bytes only. -/
theorem rev_mod (n v : Nat) : rev n (v % 256 ^ n) = rev n v := by
  have hbytes : leBytes n (v % 256 ^ n) = leBytes n v := by
    simpa [leValue_leBytes] using leBytes_leValue (leBytes n v)
  rw [rev, rev, hbytes]

/-- A value in two parts is reversed part by part, and the parts change places. -/
theorem rev_add (m n v : Nat) : rev (m + n) v = rev n (v / 256 ^ m) + 256 ^ n * rev m v := by
  simp only [rev, leBytes_add, List.reverse_append, leValue_append, List.length_reverse, length_leBytes]

/-- The source's recipe for 8 bytes (R90). -/
theorem rev_eight (v : Nat) : rev 8 v = rev 4 (v % 2 ^ 32) * 2 ^ 32 + rev 4 (v / 2 ^ 32) := by
  have hlow : rev 4 (v % 2 ^ 32) = rev 4 v := rev_mod 4 v
  have hsplit : rev 8 v = rev 4 (v / 2 ^ 32) + 2 ^ 32 * rev 4 v := rev_add 4 4 v
  omega

/-- Settles O25: the laws of `rev`, which hold at every size. -/
theorem revReversesBytes : Obligations.RevReversesBytes := by
  unfold Obligations.RevReversesBytes
  intro n v _ hv
  refine ⟨rev_lt n v, fun k hk => ?_, fun _ => rev_eight v, ?_⟩
  · rw [rev_byte, if_pos hk]
  · rw [rev_rev, Nat.mod_eq_of_lt hv]

/-! ### The bytes of a register -/

theorem byteOf_toNat (w : Word) (k : Nat) : (byteOf w k).toNat = w.toNat / 256 ^ k % 256 := by
  rw [byteOf, BitVec.extractLsb'_toNat, Nat.shiftRight_eq_div_pow, Nat.pow_mul]

/-- A reversed value of at most a word, in a register: R90's law of bytes. -/
theorem byteOf_rev {n : Nat} (hn : n ≤ 4) (w : Word) (k : Nat) :
    byteOf (BitVec.ofNat 32 (rev n w.toNat)) k = if k < n then byteOf w (n - 1 - k) else 0#8 := by
  have hword : rev n w.toNat < 2 ^ 32 := (rev_lt n _).trans_le (Nat.pow_le_pow_right (by decide) hn)
  apply BitVec.eq_of_toNat_eq
  rw [byteOf_toNat, BitVec.toNat_ofNat, Nat.mod_eq_of_lt hword, rev_byte, apply_ite BitVec.toNat, byteOf_toNat]
  rfl

/-! ### Writing the registers -/

/-- A command that changes registers and nothing else, and ends. -/
theorem finish_writesOnlyX {rs : List (Fin 8)} {s : State} {x : Vector Word 8}
    (h : ∀ r : Fin 8, r ∉ rs → x[r] = s.x[r]) : WritesOnlyX rs s (finish { s with x := x }) :=
  ⟨⟨rfl, rfl, rfl, rfl, rfl, rfl, rfl⟩, h, ⟨rfl, rfl⟩, rfl, fun _ => rfl⟩

/-- The registers that the register form of R91 and R92 writes: X0, and X1 for size 8. -/
theorem onRegister_writesOnlyX {rs : List (Fin 8)} (f : Nat → Nat → Nat) (sz : Nat) (s : State) (h0 : 0 ∈ rs)
    (h1 : sz = 8 → 1 ∈ rs) : WritesOnlyX rs s (finish (onRegister f sz s)) := by
  obtain ⟨hstate, hx⟩ := onRegister_spec f sz s
  rw [hstate]
  exact finish_writesOnlyX fun r hr => hx r (fun h => hr (h ▸ h0)) (fun hsz h => hr (h ▸ h1 hsz))

/-- Sizes other than 8: what X0 takes. -/
theorem onRegister_x0 (f : Nat → Nat → Nat) {sz : Nat} (hsz : sz ≤ 4) (s : State) :
    (onRegister f sz s).x[0] = BitVec.ofNat 32 (f sz s.x[0].toNat) := by
  have hne : sz ≠ 8 := by omega
  simp [onRegister, hne]

/-- Two words as one number, the high one first. -/
theorem append_toNat (hi lo : Word) : (hi ++ lo).toNat = hi.toNat * 2 ^ 32 + lo.toNat := by
  rw [BitVec.toNat_append, ← Nat.shiftLeft_add_eq_or_of_lt lo.isLt, Nat.shiftLeft_eq]

/-- A pair written from its two halves (R11). -/
theorem setPair0_append (hi lo : Word) (s : State) : setPair0 (hi ++ lo) s = setX 1 hi (setX 0 lo s) := by
  have hhigh : (hi ++ lo).extractLsb' 32 32 = hi :=
    (BitVec.extractLsb'_append_eq_of_le (by decide)).trans BitVec.extractLsb'_eq_self
  have hlow : (hi ++ lo).extractLsb' 0 32 = lo :=
    (BitVec.extractLsb'_append_eq_of_add_le (by decide)).trans BitVec.extractLsb'_eq_self
  rw [setPair0, hhigh, hlow]

/-! ### BSWAP (R91) -/

/-- By the recipe of R90, the pair reversed is each half reversed, the halves exchanged. -/
theorem rev_pair0 (s : State) : BitVec.ofNat 64 (rev 8 (pair0 s).toNat) =
    BitVec.ofNat 32 (rev 4 s.x[0].toNat) ++ BitVec.ofNat 32 (rev 4 s.x[1].toNat) := by
  have hlow : s.x[0].toNat < 2 ^ 32 := s.x[0].isLt
  have hpair : (pair0 s).toNat = s.x[1].toNat * 2 ^ 32 + s.x[0].toNat := append_toNat s.x[1] s.x[0]
  have hmod : (pair0 s).toNat % 2 ^ 32 = s.x[0].toNat := by omega
  have hdiv : (pair0 s).toNat / 2 ^ 32 = s.x[1].toNat := by omega
  have hrev0 : rev 4 s.x[0].toNat < 2 ^ 32 := rev_lt 4 _
  have hrev1 : rev 4 s.x[1].toNat < 2 ^ 32 := rev_lt 4 _
  apply BitVec.eq_of_toNat_eq
  rw [append_toNat, rev_eight, hmod, hdiv, BitVec.toNat_ofNat, BitVec.toNat_ofNat, BitVec.toNat_ofNat]
  omega

theorem bswap_eight (s : State) : bswap 8 s =
    finish (setX 1 (BitVec.ofNat 32 (rev 4 s.x[0].toNat)) (setX 0 (BitVec.ofNat 32 (rev 4 s.x[1].toNat)) s)) := by
  rw [bswap, onRegister, if_pos rfl, rev_pair0, setPair0_append]

/-- The commands that BSWAP of a size up to 4 decodes to. -/
theorem exec_bswap : ∀ p ∈ [(Instr.bswap1, 1), (Instr.bswap2, 2), (Instr.bswap4, 4)],
    p.2 ≤ 4 ∧ ∀ s : State, exec p.1 s = .next (bswap p.2 s) := by
  simp [exec, execBswap1, execBswap2, execBswap4]

/-- Settles O26: for sizes up to 4 X0 takes REV of its low bytes, and for size 8 each half of the pair takes REV of the
other. -/
theorem bswapReversesTheRegister : Obligations.BswapReversesTheRegister := by
  unfold Obligations.BswapReversesTheRegister
  refine ⟨⟨rfl, rfl, rfl, rfl⟩, fun p hp s => ?_, fun s => ?_⟩
  · obtain ⟨hsz, hexec⟩ := exec_bswap p hp
    refine ⟨_, hexec s, onRegister_writesOnlyX rev p.2 s (by decide) (by omega), fun k _ => ?_⟩
    rw [bswap, finish_x, onRegister_x0 rev hsz, byteOf_rev hsz]
  · refine ⟨bswap 8 s, rfl, onRegister_writesOnlyX rev 8 s (by decide) (by decide), fun k hk => ?_⟩
    have hx0 : (bswap 8 s).x[0] = BitVec.ofNat 32 (rev 4 s.x[1].toNat) := by simp [bswap_eight]
    have hx1 : (bswap 8 s).x[1] = BitVec.ofNat 32 (rev 4 s.x[0].toNat) := by simp [bswap_eight]
    rw [hx0, hx1, byteOf_rev le_rfl, byteOf_rev le_rfl, if_pos hk, if_pos hk]
    exact ⟨rfl, rfl⟩

/-! ### FIXBO (R92) -/

theorem fixbo_bigEndian {s : State} (h : s.cfg.hostBigEndian = true) (sz : Nat) : fixbo sz s = bswap sz s := by
  simp only [fixbo, bswap, h, if_true]

theorem fixbo_littleEndian {s : State} (h : s.cfg.hostBigEndian = false) (sz : Nat) :
    fixbo sz s = finish (onRegister lowBytes sz s) := by
  simp only [fixbo, h, Bool.false_eq_true, if_false]

/-- The pair's own 8 bytes written back change nothing. -/
theorem onRegister_lowBytes_eight (s : State) : onRegister lowBytes 8 s = s := by
  have hkept : BitVec.ofNat 64 (lowBytes 8 (pair0 s).toNat) = s.x[1] ++ s.x[0] := by
    apply BitVec.eq_of_toNat_eq
    have hfit : (pair0 s).toNat < 256 ^ 8 := (pair0 s).isLt
    rw [lowBytes, leValue_leBytes, Nat.mod_eq_of_lt hfit, BitVec.ofNat_toNat, BitVec.setWidth_eq, pair0]
  rw [onRegister, if_pos rfl, hkept, setPair0_append]
  simp [setX]

/-- The commands that FIXBO of a size up to 4 decodes to, each beside the BSWAP of that size. -/
theorem exec_fixbo : ∀ p ∈ [(Instr.fixbo1, Instr.bswap1, 1), (Instr.fixbo2, Instr.bswap2, 2),
    (Instr.fixbo4, Instr.bswap4, 4)], p.2.2 ≤ 4 ∧
      ∀ s : State, exec p.1 s = .next (fixbo p.2.2 s) ∧ exec p.2.1 s = .next (bswap p.2.2 s) := by
  simp [exec, execFixbo1, execFixbo2, execFixbo4, execBswap1, execBswap2, execBswap4]

/-- Settles O27: FIXBO is BSWAP on a big-endian host, and keeps the operand's low bytes on a little-endian one. -/
theorem fixboSwapsOnlyOnABigEndianHost : Obligations.FixboSwapsOnlyOnABigEndianHost := by
  unfold Obligations.FixboSwapsOnlyOnABigEndianHost
  refine ⟨⟨rfl, rfl, rfl, rfl⟩, fun p hp s => ?_, fun s => ⟨fun hbig => ?_, fun hlittle => ?_⟩⟩
  · obtain ⟨hsz, hexec⟩ := exec_fixbo p hp
    obtain ⟨hfixbo, hbswap⟩ := hexec s
    refine ⟨fun hbig => ?_, fun hlittle => ?_⟩
    · rw [hfixbo, hbswap, fixbo_bigEndian hbig]
      exact ⟨rfl, _, rfl⟩
    · refine ⟨_, hfixbo, ?_⟩
      rw [fixbo_littleEndian hlittle]
      refine ⟨onRegister_writesOnlyX lowBytes p.2.2 s (by decide) (by omega), ?_⟩
      have hfit : s.x[0].toNat % 256 ^ p.2.2 < 2 ^ 32 := (Nat.mod_le _ _).trans_lt s.x[0].isLt
      rw [finish_x, onRegister_x0 lowBytes hsz, lowBytes, leValue_leBytes, BitVec.toNat_ofNat, Nat.mod_eq_of_lt hfit]
  · exact ⟨congrArg Host.Outcome.next (fixbo_bigEndian hbig 8), _, rfl⟩
  · refine ⟨fixbo 8 s, rfl, ?_⟩
    rw [fixbo_littleEndian hlittle, onRegister_lowBytes_eight]
    exact finish_writesOnlyX (x := s.x) fun _ _ => rfl

/-! ### The memory port refuses -/

/-- A range is not wholly admitted exactly where MEM_ADMIT refuses a byte of it (R57). -/
theorem admitsAll_eq_false_iff (s : State) (a n : Nat) (w : Bool) :
    admitsAll s.cfg a n w = false ↔ Refuses s a n w := by
  rw [← Bool.not_eq_true, admitsAll_iff]
  simp [Refuses]

theorem loadBytes_of_refuses {s : State} {a n : Nat} (h : Refuses s a n false) : loadBytes s a n = none := by
  simp [loadBytes, (admitsAll_eq_false_iff s a n false).2 h]

theorem storeBytes_of_refuses {s : State} {a : Nat} {bs : List Byte} (h : Refuses s a bs.length true) :
    storeBytes s a bs = none := by
  simp [storeBytes, (admitsAll_eq_false_iff s a bs.length true).2 h]

/-! ### Reversed elements -/

theorem length_swapElements {sz n : Nat} {bs : List Byte} (h : bs.length = sz * n) :
    (swapElements sz n bs).length = bs.length := by
  induction n generalizing bs with
  | zero => simp [swapElements, h]
  | succ n ih =>
    rw [Nat.mul_succ] at h
    have htail : (bs.drop sz).length = sz * n := by rw [List.length_drop]; omega
    rw [swapElements, List.length_append, ih htail, List.length_reverse, ← List.length_append, List.take_append_drop]

/-- Byte `k` of element `e` is byte `sz-1-k` of that element before (R94). -/
theorem getElem?_swapElements {sz n : Nat} {bs : List Byte} (h : bs.length = sz * n) {e k : Nat} (he : e < n)
    (hk : k < sz) : (swapElements sz n bs)[sz * e + k]? = bs[sz * e + (sz - 1 - k)]? := by
  induction n generalizing bs e with
  | zero => exact absurd he (Nat.not_lt_zero e)
  | succ n ih =>
    rw [Nat.mul_succ] at h
    have hfirst : (bs.take sz).reverse.length = sz := by rw [List.length_reverse, List.length_take]; omega
    rw [swapElements]
    cases e with
    | zero =>
      have hplace : (bs.take sz).length - 1 - k = sz - 1 - k := by rw [List.length_take]; omega
      rw [Nat.mul_zero, Nat.zero_add, Nat.zero_add, List.getElem?_append_left (by omega),
        List.getElem?_reverse (by rwa [← List.length_reverse, hfirst]), hplace, List.getElem?_take_of_lt (by omega)]
    | succ e =>
      have htail : (bs.drop sz).length = sz * n := by rw [List.length_drop]; omega
      have hnext (j : Nat) : sz * (e + 1) + j = sz + (sz * e + j) := by rw [Nat.mul_succ]; omega
      rw [hnext, hnext, List.getElem?_append_right (by omega), hfirst, Nat.add_sub_cancel_left,
        ih htail (Nat.lt_of_succ_lt_succ he), List.getElem?_drop]

/-! ### FIXBO_ARRAY (R94), one equation per branch -/

/-- The elements of the range `[X0, X1)`, each reversed. -/
def swappedElements (sz : Nat) (s : State) : List Byte :=
  swapElements sz ((s.x[1].toNat - s.x[0].toNat) / sz)
    (readBytes s.mem s.x[0].toNat (s.x[1].toNat - s.x[0].toNat))

section
variable {i : Instr} {sz : Nat} {s : State}

theorem fixboArray_reversed (h : s.x[1].toNat < s.x[0].toNat) : fixboArray i sz s = raise .badBuffer s :=
  if_pos h

theorem fixboArray_partial (h : s.x[0].toNat ≤ s.x[1].toNat) (hrest : (s.x[1].toNat - s.x[0].toNat) % sz ≠ 0) :
    fixboArray i sz s = raise .badBuffer s :=
  (if_neg (Nat.not_lt_of_le h)).trans (if_pos hrest)

section
variable (hle : s.x[0].toNat ≤ s.x[1].toNat) (hwhole : (s.x[1].toNat - s.x[0].toNat) % sz = 0)
include hwhole

theorem range_in_elements : (readBytes s.mem s.x[0].toNat (s.x[1].toNat - s.x[0].toNat)).length =
    sz * ((s.x[1].toNat - s.x[0].toNat) / sz) := by
  rw [length_readBytes, Nat.mul_div_cancel' (Nat.dvd_of_mod_eq_zero hwhole)]

theorem length_swappedElements : (swappedElements sz s).length = s.x[1].toNat - s.x[0].toNat := by
  rw [swappedElements, length_swapElements (range_in_elements hwhole), length_readBytes]

include hle

theorem fixboArray_untouched (h : ¬(s.cfg.hostBigEndian = true ∧ 1 < sz)) : fixboArray i sz s = finish s := by
  simp [fixboArray, Nat.not_lt_of_le hle, hwhole, h]

variable (hswap : s.cfg.hostBigEndian = true ∧ 1 < sz)
include hswap

theorem fixboArray_swapped (hread : Readable s s.x[0].toNat (s.x[1].toNat - s.x[0].toNat))
    (hwrite : Writable s s.x[0].toNat (s.x[1].toNat - s.x[0].toNat)) :
    fixboArray i sz s = finish { s with mem := writeBytes s.mem s.x[0].toNat (swappedElements sz s) } := by
  rw [← length_swappedElements hwhole] at hwrite
  have hstore := storeBytes_of_writable hwrite
  rw [swappedElements] at hstore ⊢
  simp only [fixboArray, if_neg (Nat.not_lt_of_le hle), hwhole, ne_eq, not_true_eq_false, if_false, if_pos hswap,
    loadBytes_of_readable hread, hstore]

theorem fixboArray_refused (h : Refuses s s.x[0].toNat (s.x[1].toNat - s.x[0].toNat) false ∨
    Refuses s s.x[0].toNat (s.x[1].toNat - s.x[0].toNat) true) : fixboArray i sz s = midFault .busError i s := by
  simp only [fixboArray, if_neg (Nat.not_lt_of_le hle), hwhole, ne_eq, not_true_eq_false, if_false, if_pos hswap]
  cases hload : loadBytes s s.x[0].toNat (s.x[1].toNat - s.x[0].toNat) with
  | none => rfl
  | some bs =>
    obtain ⟨hadmits, rfl⟩ := (loadBytes_eq_some _ _ _ _).1 hload
    have hwrite : Refuses s s.x[0].toNat (swappedElements sz s).length true := by
      rw [length_swappedElements hwhole]
      exact h.resolve_left fun ⟨k, hk, hno⟩ => Bool.false_ne_true (hno.symm.trans (hadmits k hk))
    have hstore := storeBytes_of_refuses hwrite
    rw [swappedElements] at hstore
    simp only [hstore]

end

/-- Memory after the swap, element by element. -/
theorem readByte_swapped (hwhole : (s.x[1].toNat - s.x[0].toNat) % sz = 0) (hm : Memory.wf s.mem = true) {e k : Nat}
    (he : e < (s.x[1].toNat - s.x[0].toNat) / sz) (hk : k < sz) :
    readByte (writeBytes s.mem s.x[0].toNat (swappedElements sz s)) (s.x[0].toNat + sz * e + k) =
      readByte s.mem (s.x[0].toNat + sz * e + (sz - 1 - k)) := by
  have hlen := length_swappedElements hwhole
  have hbytes := range_in_elements hwhole
  have hroom : sz * e + sz ≤ sz * ((s.x[1].toNat - s.x[0].toNat) / sz) := by
    rw [← Nat.mul_succ]
    exact Nat.mul_le_mul_left sz he
  rw [length_readBytes] at hbytes
  have hto : sz * e + k < (swappedElements sz s).length := by omega
  have hfrom : sz * e + (sz - 1 - k) < (readBytes s.mem s.x[0].toNat (s.x[1].toNat - s.x[0].toNat)).length := by
    rw [length_readBytes]
    omega
  have hend : s.x[0].toNat + (swappedElements sz s).length ≤ spaceSize := by
    have hfin : s.x[1].toNat < 4294967296 := s.x[1].isLt
    have hstart : s.x[0].toNat < 4294967296 := s.x[0].isLt
    rw [spaceSize]
    omega
  have hplace := getElem?_swapElements (range_in_elements hwhole) he hk
  rw [← swappedElements, List.getElem?_eq_getElem hto, List.getElem?_eq_getElem hfrom, Option.some_inj,
    getElem_readBytes] at hplace
  rw [Nat.add_assoc, Nat.add_assoc, readByte_writeBytes_same _ _ _ _ hto hend hm, hplace]

/-- The swap writes nothing outside the range. -/
theorem swapped_writesRange (hwhole : (s.x[1].toNat - s.x[0].toNat) % sz = 0) :
    WritesXAndRange [] { base := s.x[0].toNat, len := s.x[1].toNat - s.x[0].toNat } s
      (finish { s with mem := writeBytes s.mem s.x[0].toNat (swappedElements sz s) }) := by
  refine ⟨⟨rfl, rfl, rfl, rfl, rfl, rfl, rfl⟩, fun _ _ => rfl, ⟨rfl, rfl⟩, rfl, fun a ha => ?_⟩
  have houtside : ¬(s.x[0].toNat ≤ a ∧ a < s.x[0].toNat + (s.x[1].toNat - s.x[0].toNat)) := of_decide_eq_false ha
  refine readByte_writeBytes_other s.mem _ _ a ?_
  rw [length_swappedElements hwhole]
  omega

end

/-- A refused byte frees no more than the range, and no engine's state. -/
theorem busError_faultsInRange {i : Instr} {q : Range} {s : State} (hengine : engineOf i = .byteOrder)
    (hrange : writeRanges i s = [q]) : FaultsInMemory .busError q s (midFault .busError i s) ∧
      KeepsBlowfish s (midFault .busError i s) ∧ KeepsMersenne s (midFault .busError i s) := by
  obtain ⟨henters, hx, hmem, hblowfish, hmersenne⟩ := midFault_spec .busError i s
  rw [hrange] at hmem
  rw [hengine] at hblowfish hmersenne
  exact ⟨⟨henters, hx, fun a ha => hmem a (List.forall_mem_singleton.2 ha)⟩, hblowfish (by decide),
    hmersenne (by decide)⟩

/-- What makes a command the FIXBO_ARRAY of a size: its word, its meaning, its write range and its engine. -/
structure IsFixboArray (i : Instr) (sz : Nat) : Prop where
  word   : encode i = BitVec.ofNat 32 (0x32 + 256 * sz)
  runs   : ∀ s, exec i s = .next (fixboArray i sz s)
  range  : ∀ s, writeRanges i s = swapRange sz s
  engine : engineOf i = .byteOrder

theorem isFixboArray : ∀ p ∈ [(Instr.fixboArray1, 1), (Instr.fixboArray2, 2), (Instr.fixboArray4, 4),
    (Instr.fixboArray8, 8)], IsFixboArray p.1 p.2 := by
  intro p hp
  fin_cases hp <;> exact ⟨rfl, fun _ => rfl, fun _ => rfl, rfl⟩

/-- Settles O28: each clause is one branch of `fixboArray`. -/
theorem fixboArrayReversesEveryElement : Obligations.FixboArrayReversesEveryElement := by
  unfold Obligations.FixboArrayReversesEveryElement
  rintro ⟨i, sz⟩ hp s _ _ rfl rfl
  obtain ⟨hword, hruns, hrange, hengine⟩ := isFixboArray _ hp
  dsimp only at hword hruns hrange hengine ⊢
  rw [hruns]
  refine ⟨hword, fun hlt => ⟨_, rfl, ?_⟩, fun hle hrest => ⟨_, rfl, ?_⟩, fun hle hwhole hno => ⟨_, rfl, ?_⟩,
    fun hle hwhole hbig hsz hm hread hwrite => ⟨_, rfl, ?_⟩, fun hle hwhole hbig hsz hrefuses => ⟨_, rfl, ?_⟩⟩
  · rw [fixboArray_reversed hlt]
    exact raise_faultsCleanly .badBuffer s
  · rw [fixboArray_partial hle hrest]
    exact raise_faultsCleanly .badBuffer s
  · have hkept : ¬(s.cfg.hostBigEndian = true ∧ 1 < sz) := by
      rintro ⟨hbig, hsz⟩
      rcases hno with hlittle | hone
      · exact Bool.false_ne_true (hlittle.symm.trans hbig)
      · exact hsz.ne' hone
    rw [fixboArray_untouched hle hwhole hkept]
    exact finish_writesOnlyX (x := s.x) fun _ _ => rfl
  · rw [fixboArray_swapped hle hwhole ⟨hbig, hsz⟩ hread hwrite]
    exact ⟨swapped_writesRange hwhole, fun e k he hk => readByte_swapped hwhole hm he hk⟩
  · rw [fixboArray_refused hle hwhole ⟨hbig, hsz⟩ hrefuses]
    exact busError_faultsInRange hengine ((hrange s).trans (if_pos ⟨hbig, hsz⟩))

end Sys2Proof.Machine

/-! ## Base64 (R100 to R109)

The code first: INV undoes ALPHA, a group decodes to the bytes it encodes, and so does a list of groups. Then the two
commands over memory, which differ in their codes and lengths only (`recode`). -/

namespace Sys2Proof.Machine

/-! ### The alphabet and its inverse -/

/-- R100's table by rows is its string. -/
theorem alpha_eq_string (v : BitVec 6) : alpha v = BitVec.ofNat 8
    ("ABCDEFGHIJKLMNOPQRSTUVWXYZabcdefghijklmnopqrstuvwxyz0123456789+/".toList.getD v.toNat '=').toNat := by
  revert v
  decide

@[simp] theorem inv_alpha (v : BitVec 6) : inv (alpha v) = .data v := by
  revert v
  decide

theorem inv_eq_data_iff (c : Byte) (v : BitVec 6) : inv c = .data v ↔ alpha v = c := by
  constructor
  · intro h
    have hback : ∀ c : Byte, isData c = true → alpha (sextetOf c) = c := by decide
    simpa [sextetOf, h] using hback c (by rw [isData, h])
  · rintro rfl
    exact inv_alpha v

theorem inv_eq_pad_iff (c : Byte) : inv c = .pad ↔ c = 0x3D#8 := by
  revert c
  decide

/-- The other two answers of INV leave this one. -/
theorem inv_eq_invalid_iff (c : Byte) : inv c = .invalid ↔ c ≠ 0x3D#8 ∧ ∀ v : BitVec 6, alpha v ≠ c := by
  simp only [ne_eq, ← inv_eq_pad_iff, ← inv_eq_data_iff]
  cases inv c with
  | data v => simp
  | pad => simp
  | invalid => simp

/-- Settles O29: INV is read off the alphabet's 64 bytes and the pad. -/
theorem inverseMapInvertsTheAlphabet : Obligations.InverseMapInvertsTheAlphabet := by
  unfold Obligations.InverseMapInvertsTheAlphabet
  exact ⟨alpha_eq_string, rfl, inv_eq_data_iff, inv_eq_pad_iff, inv_eq_invalid_iff⟩

@[simp] theorem sextetOf_alpha (v : BitVec 6) : sextetOf (alpha v) = v := by rw [sextetOf, inv_alpha]
@[simp] theorem sextetOf_padChar : sextetOf padChar = 0#6 := by decide
@[simp] theorem isData_alpha (v : BitVec 6) : isData (alpha v) = true := by rw [isData, inv_alpha]

theorem ne_padChar_of_isData {c : Byte} (h : isData c = true) : c ≠ padChar := by
  rintro rfl
  exact absurd h (by decide)

@[simp] theorem alpha_ne_padChar (v : BitVec 6) : alpha v ≠ padChar := ne_padChar_of_isData (isData_alpha v)

/-! ### The two lengths -/

/-- The largest length whose encoding has a 32-bit length (R102). -/
theorem encLen_le_iff (n : Nat) : encLen n ≤ 4294967295 ↔ n < 3221225470 := by
  unfold encLen
  omega

/-- R104: DL of a word fits a word. -/
theorem decLen_lt (w : Word) : decLen w.toNat < 2 ^ 32 := by
  have := w.isLt
  unfold decLen
  omega

theorem le_decLen_encLen (n : Nat) : n ≤ decLen (encLen n) := by
  unfold decLen encLen
  omega

theorem finish_setX_writesOnlyX (r : Fin 8) (v : Word) (s : State) : WritesOnlyX [r] s (finish (setX r v s)) :=
  finish_writesOnlyX (x := s.x.set r v) fun q hq => (setX_get r q v s).trans (if_neg (by simpa using hq))

theorem setX_zero_get (v : Word) (s : State) : (setX 0 v s).x[0] = v := setX_get 0 0 v s

/-- Settles O30: the two branches of `b64EncLen`. -/
theorem encLenIsFourThirdsRoundedUp : Obligations.EncLenIsFourThirdsRoundedUp := by
  unfold Obligations.EncLenIsFourThirdsRoundedUp
  refine ⟨rfl, fun s => ⟨fun hn => ?_, fun hn => ⟨_, rfl, ?_⟩⟩⟩
  · have hfits := (encLen_le_iff _).2 hn
    refine ⟨_, (s.x[0].toNat + 2) / 3, congrArg Host.Outcome.next (if_neg hfits.not_gt),
      finish_setX_writesOnlyX 0 _ s, ?_, by omega, by omega⟩
    rw [finish_x, setX_zero_get, BitVec.toNat_ofNat, Nat.mod_eq_of_lt (by omega)]
    rfl
  · have hlong : 4294967295 < encLen s.x[0].toNat := not_le.1 ((encLen_le_iff _).not.2 hn.not_gt)
    rw [b64EncLen, if_pos hlong]
    exact raise_faultsCleanly .lengthOverflow s

/-- Settles O31: DL of any word fits X0. -/
theorem decLenIsThreeQuartersRoundedUp : Obligations.DecLenIsThreeQuartersRoundedUp := by
  unfold Obligations.DecLenIsThreeQuartersRoundedUp
  refine ⟨rfl, fun s => ⟨_, (s.x[0].toNat + 3) / 4, rfl, finish_setX_writesOnlyX 0 _ s, ?_, by omega, by omega⟩⟩
  rw [b64DecLen, finish_x, setX_zero_get, BitVec.toNat_ofNat, Nat.mod_eq_of_lt (decLen_lt s.x[0])]
  rfl

/-! ### Three bytes and four sextets -/

/-- The sextets of three bytes by R103's formulas, bit by bit. -/
theorem sextets_of_bytes (b0 b1 b2 : Byte) :
    (b0 ++ b1 ++ b2).extractLsb' 18 6 = (b0 >>> 2).setWidth 6 ∧
    (b0 ++ b1 ++ b2).extractLsb' 12 6 = (((b0 &&& 0x03#8) <<< 4) ||| (b1 >>> 4)).setWidth 6 ∧
    (b0 ++ b1 ++ b2).extractLsb' 6 6 = (((b1 &&& 0x0F#8) <<< 2) ||| (b2 >>> 6)).setWidth 6 ∧
    (b0 ++ b1 ++ b2).extractLsb' 0 6 = (b2 &&& 0x3F#8).setWidth 6 := by
  refine ⟨?_, ?_, ?_, ?_⟩ <;>
    (ext i hi
     rw [BitVec.getElem_extractLsb', BitVec.getLsbD_append, BitVec.getLsbD_append]
     interval_cases i <;> simp)

theorem bytes_of_append (b0 b1 b2 : Byte) : (b0 ++ b1 ++ b2).extractLsb' 16 8 = b0 ∧
    (b0 ++ b1 ++ b2).extractLsb' 8 8 = b1 ∧ (b0 ++ b1 ++ b2).extractLsb' 0 8 = b2 := by
  refine ⟨?_, ?_, BitVec.extractLsb'_append_eq_right⟩
  · rw [BitVec.extractLsb'_append_eq_of_le (by decide)]
    exact BitVec.extractLsb'_append_eq_left
  · rw [BitVec.extractLsb'_append_eq_of_le (by decide)]
    exact BitVec.extractLsb'_append_eq_right

theorem sextets_append (b : BitVec 24) :
    b.extractLsb' 18 6 ++ b.extractLsb' 12 6 ++ b.extractLsb' 6 6 ++ b.extractLsb' 0 6 = b := by
  rw [BitVec.extractLsb'_append_extractLsb'_eq_extractLsb' (start₂ := 18) rfl,
    BitVec.extractLsb'_append_extractLsb'_eq_extractLsb' (start₂ := 12) rfl,
    BitVec.extractLsb'_append_extractLsb'_eq_extractLsb' (start₂ := 6) rfl]
  exact BitVec.extractLsb'_eq_self

/-- Where the third byte is absent, a pad's zero sextet stands for the fourth. -/
theorem sextets_append_pad (b0 b1 : Byte) : (b0 ++ b1 ++ 0#8).extractLsb' 18 6 ++
    (b0 ++ b1 ++ 0#8).extractLsb' 12 6 ++ (b0 ++ b1 ++ 0#8).extractLsb' 6 6 ++ 0#6 = b0 ++ b1 ++ 0#8 := by
  have hlast : (b0 ++ b1 ++ 0#8).extractLsb' 0 6 = 0#6 := by simpa using (sextets_of_bytes b0 b1 0#8).2.2.2
  simpa only [hlast] using sextets_append (b0 ++ b1 ++ 0#8)

/-- Where the second and third bytes are absent, two pads stand for the last two sextets. -/
theorem sextets_append_two_pads (b0 : Byte) : (b0 ++ 0#8 ++ 0#8).extractLsb' 18 6 ++
    (b0 ++ 0#8 ++ 0#8).extractLsb' 12 6 ++ 0#6 ++ 0#6 = b0 ++ 0#8 ++ 0#8 := by
  have hthird : (b0 ++ 0#8 ++ 0#8).extractLsb' 6 6 = 0#6 := by simpa using (sextets_of_bytes b0 0#8 0#8).2.2.1
  simpa only [hthird] using sextets_append_pad b0 0#8

/-! ### The encoding, group by group -/

/-- A group's characters by R103's formulas. -/
theorem encGroup_eq (r : Nat) (b0 b1 b2 : Byte) : encGroup r b0 b1 b2 =
    [alpha ((b0 >>> 2).setWidth 6), alpha ((((b0 &&& 0x03#8) <<< 4) ||| (b1 >>> 4)).setWidth 6),
      if 2 ≤ r then alpha ((((b1 &&& 0x0F#8) <<< 2) ||| (b2 >>> 6)).setWidth 6) else 0x3D#8,
      if 3 ≤ r then alpha ((b2 &&& 0x3F#8).setWidth 6) else 0x3D#8] := by
  obtain ⟨h0, h1, h2, h3⟩ := sextets_of_bytes b0 b1 b2
  rw [encGroup, h0, h1, h2, h3, padChar]

@[simp] theorem length_encGroup (r : Nat) (b0 b1 b2 : Byte) : (encGroup r b0 b1 b2).length = 4 := rfl

@[simp] theorem b64Encode_nil : b64Encode [] = [] := rfl

/-- One equation for the groups of one, two and three bytes. -/
theorem b64Encode_eq_encGroup_append {bs : List Byte} (h : bs ≠ []) : b64Encode bs =
    encGroup (min 3 bs.length) (bs.getD 0 0#8) (bs.getD 1 0#8) (bs.getD 2 0#8) ++ b64Encode (bs.drop 3) := by
  cases bs using b64Encode.fun_cases with
  | case1 => exact absurd rfl h
  | case2 b0 => rfl
  | case3 b0 b1 => rfl
  | case4 b0 b1 b2 rest =>
    have hr : min 3 (b0 :: b1 :: b2 :: rest).length = 3 := by simp
    rw [hr, b64Encode]
    rfl

theorem length_b64Encode (bs : List Byte) : (b64Encode bs).length = encLen bs.length := by
  induction bs using b64Encode.induct with
  | case1 => rfl
  | case2 b0 => simp [b64Encode, encLen]
  | case3 b0 b1 => simp [b64Encode, encLen]
  | case4 b0 b1 b2 rest ih =>
    simp only [b64Encode, List.length_append, length_encGroup, ih, List.length_cons, encLen]
    omega

/-- The groups from the `g`-th on encode the bytes from `3 g` on. -/
theorem drop_b64Encode (bs : List Byte) (g : Nat) : (b64Encode bs).drop (4 * g) = b64Encode (bs.drop (3 * g)) := by
  induction g generalizing bs with
  | zero => rfl
  | succ g ih =>
    by_cases h : bs = []
    · simp [h]
    · rw [b64Encode_eq_encGroup_append h, Nat.mul_succ, Nat.add_comm, ← List.drop_drop,
        List.drop_left' (length_encGroup ..), ih, List.drop_drop, Nat.mul_succ, Nat.add_comm]

/-- Character `k` of group `g`. -/
theorem getElem?_b64Encode (bs : List Byte) {g k : Nat} (hg : 3 * g < bs.length) (hk : k < 4) :
    (b64Encode bs)[4 * g + k]? = (encGroup (min 3 (bs.length - 3 * g)) (bs.getD (3 * g) 0#8)
      (bs.getD (3 * g + 1) 0#8) (bs.getD (3 * g + 2) 0#8))[k]? := by
  have hne : bs.drop (3 * g) ≠ [] := by
    rw [ne_eq, List.drop_eq_nil_iff]
    omega
  rw [← List.getElem?_drop, drop_b64Encode, b64Encode_eq_encGroup_append hne,
    List.getElem?_append_left (by simpa using hk)]
  simp [List.getD_eq_getElem?_getD]

/-! ### Decoding what was encoded -/

theorem padTo4_eq_self {cs : List Byte} (h : 4 ∣ cs.length) : padTo4 cs = cs := by
  have hnone : 4 * ((cs.length + 3) / 4) - cs.length = 0 := by omega
  rw [padTo4, hnone, List.replicate_zero, List.append_nil]

/-- Group by group: each is legal and keeps the bytes it was made of. -/
theorem decGroups_b64Encode (bs : List Byte) : decGroups (b64Encode bs) = (bs, true) := by
  induction bs using b64Encode.induct with
  | case1 => rfl
  | case2 b0 =>
    simp [b64Encode, encGroup, decGroups, legalGroup, decGroup, sextets_append_two_pads, bytes_of_append]
  | case3 b0 b1 =>
    simp [b64Encode, encGroup, decGroups, legalGroup, decGroup, sextets_append_pad, bytes_of_append]
  | case4 b0 b1 b2 rest ih =>
    simp [b64Encode, encGroup, decGroups, legalGroup, decGroup, sextets_append, bytes_of_append, ih]

theorem b64Decode_b64Encode (bs : List Byte) : b64Decode (b64Encode bs) = (bs, true) := by
  have hwhole : 4 ∣ (b64Encode bs).length := by simp [length_b64Encode, encLen]
  rw [b64Decode, padTo4_eq_self hwhole, decGroups_b64Encode]

/-! ### How much a legal input decodes to -/

theorem length_decGroup (q0 q1 q2 q3 : Byte) :
    (decGroup q0 q1 q2 q3).length = if q2 = padChar then 1 else if q3 = padChar then 2 else 3 := by
  unfold decGroup
  split_ifs <;> rfl

theorem length_decGroup_pos (q0 q1 q2 q3 : Byte) : 0 < (decGroup q0 q1 q2 q3).length := by
  rw [length_decGroup]
  split_ifs <;> decide

/-- A legal group before the final one has no pad (R106). -/
theorem length_decGroup_of_legal {q0 q1 q2 q3 : Byte} (h : legalGroup false q0 q1 q2 q3 = true) :
    (decGroup q0 q1 q2 q3).length = 3 := by
  obtain ⟨-, ⟨-, h2⟩, h3⟩ : isData q0 = true ∧ (isData q1 = true ∧ isData q2 = true) ∧ isData q3 = true := by
    simpa [legalGroup] using h
  rw [length_decGroup, if_neg (ne_padChar_of_isData h2), if_neg (ne_padChar_of_isData h3)]

/-- Legal groups give three bytes each, but the final one, which gives at least one. -/
theorem le_length_decGroups {cs : List Byte} (h : (decGroups cs).2 = true) :
    3 * (cs.length / 4) ≤ (decGroups cs).1.length + 2 := by
  induction cs using decGroups.induct with
  | case1 q0 q1 q2 q3 rest hlegal ih =>
    simp only [decGroups, hlegal, if_true] at h ⊢
    have hrest := ih h
    simp only [List.length_append, List.length_cons]
    cases rest with
    | nil =>
      have hfinal := length_decGroup_pos q0 q1 q2 q3
      simp only [List.length_nil]
      omega
    | cons q rest =>
      have hfull := length_decGroup_of_legal hlegal
      omega
  | case2 q0 q1 q2 q3 rest hlegal => simp [decGroups, hlegal] at h
  | case3 cs hshort =>
    match cs, hshort with
    | [], _ | [_], _ | [_, _], _ | [_, _, _], _ => simp
    | q0 :: q1 :: q2 :: q3 :: rest, hshort => exact (hshort _ _ _ _ _ rfl).elim

/-- The lower bound of R108, of the code alone. -/
theorem decLen_le_length_b64Decode {cs : List Byte} (h : (b64Decode cs).2 = true) :
    decLen cs.length ≤ (b64Decode cs).1.length + 2 := by
  have hgroups := le_length_decGroups h
  rw [length_padTo4] at hgroups
  simp only [b64Decode, decLen]
  omega

/-! ### Bytes written to memory -/

theorem InSpace.mono {a n m : Nat} (h : InSpace a n) (hm : m ≤ n) : InSpace a m := by
  unfold InSpace at h ⊢
  omega

theorem wf_writeBytes_of_inSpace {m : Memory} {a : Nat} {bs : List Byte} (ha : InSpace a bs.length)
    (hm : Memory.wf m = true) : Memory.wf (writeBytes m a bs) = true :=
  wf_writeBytes m a bs (ha.imp_left List.eq_nil_of_length_eq_zero) hm

theorem readByte_writeBytes_of_getElem? {m : Memory} {a k : Nat} {bs : List Byte} {b : Byte} (hb : bs[k]? = some b)
    (ha : InSpace a bs.length) (hm : Memory.wf m = true) : readByte (writeBytes m a bs) (a + k) = b := by
  obtain ⟨hk, rfl⟩ := List.getElem?_eq_some_iff.1 hb
  exact readByte_writeBytes_same m a bs k hk (ha.resolve_left (by omega)) hm

theorem readBytes_writeBytes_same {m : Memory} {a : Nat} {bs : List Byte} (ha : InSpace a bs.length)
    (hm : Memory.wf m = true) : readBytes (writeBytes m a bs) a bs.length = bs := by
  refine List.ext_getElem (length_readBytes ..) fun k hk hk' => ?_
  rw [getElem_readBytes]
  exact readByte_writeBytes_of_getElem? (List.getElem?_eq_getElem hk') ha hm

theorem getElem?_readBytes (m : Memory) (a : Nat) {n k : Nat} (h : k < n) :
    (readBytes m a n)[k]? = some (readByte m (a + k)) := by
  simp [readBytes, h]

theorem getD_readBytes (m : Memory) (a n k : Nat) :
    (readBytes m a n).getD k 0#8 = if k < n then readByte m (a + k) else 0#8 := by
  by_cases h : k < n <;> simp [readBytes, h, List.getD_eq_getElem?_getD]

/-! ### What the two commands share -/

/-- The bytes of the source range `[X1, X1+X2)`. -/
def sourceBytes (s : State) : List Byte := readBytes s.mem s.x[1].toNat s.x[2].toNat

@[simp] theorem length_sourceBytes (s : State) : (sourceBytes s).length = s.x[2].toNat := length_readBytes ..

/-- The normal end: bytes at `[X0, …)` and a value in X0. -/
def storeAndReturn (bs : List Byte) (v : Word) (s : State) : State :=
  finish (setX 0 v { s with mem := writeBytes s.mem s.x[0].toNat bs })

@[simp] theorem storeAndReturn_x0 (bs : List Byte) (v : Word) (s : State) : (storeAndReturn bs v s).x[0] = v :=
  setX_zero_get v { s with mem := writeBytes s.mem s.x[0].toNat bs }
@[simp] theorem storeAndReturn_mem (bs : List Byte) (v : Word) (s : State) :
    (storeAndReturn bs v s).mem = writeBytes s.mem s.x[0].toNat bs := rfl

theorem storeAndReturn_writesXAndRange (bs : List Byte) (v : Word) (s : State) :
    WritesXAndRange [0] { base := s.x[0].toNat, len := bs.length } s (storeAndReturn bs v s) := by
  obtain ⟨hends, hx, hblowfish, hmersenne, -⟩ := finish_setX_writesOnlyX 0 v s
  refine ⟨hends, hx, hblowfish, hmersenne, fun a ha => readByte_writeBytes_other s.mem _ bs a ?_⟩
  have houtside : ¬(s.x[0].toNat ≤ a ∧ a < s.x[0].toNat + bs.length) := of_decide_eq_false ha
  omega

/-- A fault in the memory accesses of a command whose engine has no state frees no more than the command's ranges. -/
theorem midFault_faultsInRange {c : FaultCode} {i : Instr} {q : Range} {s : State} (hb : engineOf i ≠ .blowfish)
    (hm : engineOf i ≠ .mersenne) (hrange : ∀ r ∈ writeRanges i s, ∀ a, q.has a = false → r.has a = false) :
    FaultsInMemory c q s (midFault c i s) ∧ KeepsBlowfish s (midFault c i s) ∧ KeepsMersenne s (midFault c i s) := by
  obtain ⟨henters, hx, hmem, hblowfish, hmersenne⟩ := midFault_spec c i s
  exact ⟨⟨henters, hx, fun a ha => hmem a fun r hr => hrange r hr a ha⟩, hblowfish hb, hmersenne hm⟩

/-- The checks of R103 and R107 on the source range and a destination of `len` bytes. -/
def RecodeRangesOk (len : Nat) (s : State) : Prop :=
  InSpace s.x[1].toNat s.x[2].toNat ∧ InSpace s.x[0].toNat len ∧ Apart s.x[1].toNat s.x[2].toNat s.x[0].toNat len

/-- Past its checks a command reads its source, and writes and counts the bytes that its code gives; a code says too
whether its input is legal. -/
def recodeChecked (i : Instr) (code : List Byte → List Byte × Bool) (s : State) : State :=
  match loadBytes s s.x[1].toNat s.x[2].toNat with
  | none    => midFault .busError i s
  | some cs =>
    match storeBytes s s.x[0].toNat (code cs).1 with
    | none    => midFault .busError i s
    | some s' =>
      if (code cs).2 then finish (setX 0 (BitVec.ofNat 32 (code cs).1.length) s') else midFault .badB64Char i s

/-- The checks, then the work. -/
def recode (i : Instr) (len : Nat) (code : List Byte → List Byte × Bool) (s : State) : State :=
  if !({ base := s.x[1].toNat, len := s.x[2].toNat : Range }).ok then raise .badBuffer s
  else if !({ base := s.x[0].toNat, len := len : Range }).ok then raise .badBuffer s
  else if ({ base := s.x[1].toNat, len := s.x[2].toNat : Range }).overlaps { base := s.x[0].toNat, len := len } then
    raise .badBuffer s
  else recodeChecked i code s

section
variable {i : Instr} {len : Nat} {code : List Byte → List Byte × Bool} {s : State}

theorem recodeRangesOk_iff : RecodeRangesOk len s ↔
    ({ base := s.x[1].toNat, len := s.x[2].toNat : Range }).ok = true ∧
      ({ base := s.x[0].toNat, len := len : Range }).ok = true ∧
      ({ base := s.x[1].toNat, len := s.x[2].toNat : Range }).overlaps { base := s.x[0].toNat, len := len } = false := by
  rw [Range.ok_iff, Range.ok_iff, Range.not_overlaps_iff]
  rfl

theorem recode_badRanges (h : ¬ RecodeRangesOk len s) : recode i len code s = raise .badBuffer s := by
  rw [recodeRangesOk_iff] at h
  unfold recode
  split_ifs with hsrc hdest hoverlap
  · rfl
  · rfl
  · rfl
  · simp_all

theorem recode_of_rangesOk (h : RecodeRangesOk len s) : recode i len code s = recodeChecked i code s := by
  obtain ⟨hsrc, hdest, hoverlap⟩ := recodeRangesOk_iff.1 h
  simp [recode, hsrc, hdest, hoverlap]

theorem recodeChecked_refused (h : Refuses s s.x[1].toNat s.x[2].toNat false ∨
    Refuses s s.x[0].toNat (code (sourceBytes s)).1.length true) : recodeChecked i code s = midFault .busError i s := by
  unfold recodeChecked
  cases hload : loadBytes s s.x[1].toNat s.x[2].toNat with
  | none => rfl
  | some cs =>
    obtain ⟨-, rfl⟩ := (loadBytes_eq_some ..).1 hload
    have hdest := h.resolve_left fun hsrc => nomatch (loadBytes_of_refuses hsrc).symm.trans hload
    have hstore : storeBytes s s.x[0].toNat (code (readBytes s.mem s.x[1].toNat s.x[2].toNat)).1 = none :=
      storeBytes_of_refuses hdest
    simp only [hstore]

theorem recodeChecked_admitted (hread : ∀ k < s.x[2].toNat, memAdmit s.cfg (s.x[1].toNat + k) false = true)
    (hwrite : ∀ k < (code (sourceBytes s)).1.length, memAdmit s.cfg (s.x[0].toNat + k) true = true) :
    recodeChecked i code s =
      if (code (sourceBytes s)).2 then
        storeAndReturn (code (sourceBytes s)).1 (BitVec.ofNat 32 (code (sourceBytes s)).1.length) s
      else midFault .badB64Char i s := by
  have hload : loadBytes s s.x[1].toNat s.x[2].toNat = some (sourceBytes s) := (loadBytes_eq_some ..).2 ⟨hread, rfl⟩
  have hstore := (storeBytes_eq_some s _ _ _).2 ⟨hwrite, rfl⟩
  simp only [recodeChecked, hload, hstore]
  rfl

/-- What a command has done that leaves no fault: every other way to end sets ERR. -/
theorem recode_of_no_fault (h : (recode i len code s).err = false) : (code (sourceBytes s)).2 = true ∧
    recode i len code s =
      storeAndReturn (code (sourceBytes s)).1 (BitVec.ofNat 32 (code (sourceBytes s)).1.length) s := by
  by_cases hranges : RecodeRangesOk len s
  · rw [recode_of_rangesOk hranges] at h ⊢
    by_cases hrefuses : Refuses s s.x[1].toNat s.x[2].toNat false ∨
        Refuses s s.x[0].toNat (code (sourceBytes s)).1.length true
    · simp [recodeChecked_refused hrefuses] at h
    · obtain ⟨hread, hwrite⟩ : (∀ k < s.x[2].toNat, memAdmit s.cfg (s.x[1].toNat + k) false = true) ∧
          ∀ k < (code (sourceBytes s)).1.length, memAdmit s.cfg (s.x[0].toNat + k) true = true := by
        simpa [Refuses] using hrefuses
      rw [recodeChecked_admitted hread hwrite] at h ⊢
      by_cases hlegal : (code (sourceBytes s)).2 = true
      · exact ⟨hlegal, if_pos hlegal⟩
      · simp [hlegal] at h
  · simp [recode_badRanges hranges] at h

end

/-! ### B64_DECODE -/

theorem b64DecodeCmd_eq_recode (s : State) :
    b64DecodeCmd s = recode .b64Decode (decLen s.x[2].toNat) b64Decode s := rfl

/-- B64_DECODE of a legal input. -/
theorem b64DecodeCmd_legal {s : State} {bs : List Byte} (hranges : DecodeRangesOk s)
    (hread : Readable s s.x[1].toNat s.x[2].toNat) (hlegal : b64Decode (sourceBytes s) = (bs, true))
    (hwrite : ∀ k < bs.length, memAdmit s.cfg (s.x[0].toNat + k) true = true) :
    b64DecodeCmd s = storeAndReturn bs (BitVec.ofNat 32 bs.length) s := by
  rw [b64DecodeCmd_eq_recode, recode_of_rangesOk hranges, recodeChecked_admitted hread.2 (by rwa [hlegal]), hlegal]
  rfl

/-- Settles O35: a normal end counts the bytes of a legal input, whose number the code's own bounds give. -/
theorem decodedCountWithinTwoOfTheHint : Obligations.DecodedCountWithinTwoOfTheHint := by
  unfold Obligations.DecodedCountWithinTwoOfTheHint
  rintro s _ - - ⟨⟩ herr
  change (b64DecodeCmd s).err = false at herr
  rw [b64DecodeCmd_eq_recode] at herr ⊢
  obtain ⟨hlegal, hend⟩ := recode_of_no_fault herr
  have hupper := length_b64Decode_le (sourceBytes s)
  have hlower := decLen_le_length_b64Decode hlegal
  have hfits := decLen_lt s.x[2]
  rw [length_sourceBytes] at hupper hlower
  rw [hend, storeAndReturn_x0, BitVec.toNat_ofNat, Nat.mod_eq_of_lt (by omega)]
  exact ⟨hupper, hlower⟩

/-! ### B64_ENCODE -/

/-- The encoding as a code for which every input is legal. -/
def encodeOutput (bs : List Byte) : List Byte × Bool := (b64Encode bs, true)

theorem length_encodedBytes (s : State) : (b64Encode (sourceBytes s)).length = encLen s.x[2].toNat := by
  rw [length_b64Encode, length_sourceBytes]

theorem b64EncodeCmd_tooLong {s : State} (h : 4294967295 < encLen s.x[2].toNat) :
    b64EncodeCmd s = raise .lengthOverflow s :=
  if_pos h

theorem b64EncodeCmd_eq_recode {s : State} (h : encLen s.x[2].toNat ≤ 4294967295) :
    b64EncodeCmd s = recode .b64Encode (encLen s.x[2].toNat) encodeOutput s := by
  simp only [b64EncodeCmd, recode, recodeChecked, if_neg h.not_gt]
  cases hload : loadBytes s s.x[1].toNat s.x[2].toNat with
  | none => rfl
  | some bs =>
    obtain ⟨-, rfl⟩ := (loadBytes_eq_some ..).1 hload
    simp only [encodeOutput, length_b64Encode, length_readBytes]
    cases storeBytes s s.x[0].toNat (b64Encode (readBytes s.mem s.x[1].toNat s.x[2].toNat)) <;> rfl

theorem b64EncodeCmd_of_ready {s : State} (h : EncodeReady s) :
    b64EncodeCmd s = storeAndReturn (b64Encode (sourceBytes s)) (BitVec.ofNat 32 (encLen s.x[2].toNat)) s := by
  obtain ⟨hlen, hranges, hread, hwrite⟩ := h
  have hout : (encodeOutput (sourceBytes s)).1.length = encLen s.x[2].toNat := length_encodedBytes s
  rw [b64EncodeCmd_eq_recode hlen, recode_of_rangesOk hranges,
    recodeChecked_admitted hread.2 (by rw [hout]; exact hwrite.2), hout]
  rfl

/-- Memory after the encoding: character `k` of the group of the bytes from `3 g` on. -/
theorem readByte_encoded {s : State} {g r : Nat} {b0 b1 b2 : Byte} (hg : 3 * g < s.x[2].toNat)
    (hr : r = min 3 (s.x[2].toNat - 3 * g)) (h0 : b0 = readByte s.mem (s.x[1].toNat + 3 * g))
    (h1 : b1 = if 2 ≤ r then readByte s.mem (s.x[1].toNat + 3 * g + 1) else 0#8)
    (h2 : b2 = if 3 ≤ r then readByte s.mem (s.x[1].toNat + 3 * g + 2) else 0#8)
    (ha : InSpace s.x[0].toNat (encLen s.x[2].toNat)) (hm : Memory.wf s.mem = true) {k : Nat} {c : Byte}
    (hc : (encGroup r b0 b1 b2)[k]? = some c) :
    readByte (writeBytes s.mem s.x[0].toNat (b64Encode (sourceBytes s))) (s.x[0].toNat + 4 * g + k) = c := by
  have hk : k < 4 := (List.getElem?_eq_some_iff.1 hc).1
  have hsecond : 2 ≤ r ↔ 3 * g + 1 < s.x[2].toNat := by omega
  have hthird : 3 ≤ r ↔ 3 * g + 2 < s.x[2].toNat := by omega
  rw [Nat.add_assoc]
  refine readByte_writeBytes_of_getElem? ?_ (by rwa [length_encodedBytes]) hm
  rw [getElem?_b64Encode _ (by rwa [length_sourceBytes]) hk, length_sourceBytes, ← hr, ← hc, h0, h1, h2]
  simp only [sourceBytes, getD_readBytes, if_pos hg, hsecond, hthird, Nat.add_assoc]

/-- Settles O32: the length check, then the branches of `recode` with a code that is always legal, whose characters
`readByte_encoded` gives. -/
theorem encodeWritesTheGroups : Obligations.EncodeWritesTheGroups := by
  unfold Obligations.EncodeWritesTheGroups
  refine ⟨rfl, ?_⟩
  rintro s _ _ _ rfl rfl rfl
  refine ⟨fun hlong => ⟨_, rfl, ?_⟩, fun hlen hbad => ⟨_, rfl, ?_⟩, fun hlen hranges hrefuses => ⟨_, rfl, ?_⟩,
    fun hready hm => ⟨_, rfl, ?_⟩⟩
  · rw [b64EncodeCmd_tooLong hlong]
    exact raise_faultsCleanly .lengthOverflow s
  · rw [b64EncodeCmd_eq_recode hlen, recode_badRanges hbad]
    exact raise_faultsCleanly .badBuffer s
  · rw [b64EncodeCmd_eq_recode hlen, recode_of_rangesOk hranges, recodeChecked_refused]
    · exact midFault_faultsInRange (by decide) (by decide) fun r hr a ha => by rwa [List.mem_singleton.1 hr]
    · rwa [encodeOutput, length_encodedBytes]
  · rw [b64EncodeCmd_of_ready hready]
    obtain ⟨hlen, -, -, hspace, -⟩ := hready
    refine ⟨?_, ?_, fun g r b0 b1 b2 hg hr h0 h1 h2 => ?_⟩
    · rw [← length_encodedBytes]
      exact storeAndReturn_writesXAndRange ..
    · rw [storeAndReturn_x0, BitVec.toNat_ofNat, Nat.mod_eq_of_lt (by omega)]
    · have hchar {k : Nat} {c : Byte} := @readByte_encoded s g r b0 b1 b2 hg hr h0 h1 h2 hspace hm k c
      rw [encGroup_eq] at hchar
      exact ⟨hchar (k := 0) rfl, hchar (k := 1) rfl, hchar (k := 2) rfl, hchar (k := 3) rfl⟩

/-! ### B64_DECODE after B64_ENCODE -/

/-- Settles O36: the decoder's source is the encoding of the first source, and the code gives that source back. -/
theorem decodeUndoesEncode : Obligations.DecodeUndoesEncode := by
  unfold Obligations.DecodeUndoesEncode
  rintro s _ u dest2 hready hm ⟨⟩ hu hranges hread hwrite
  rw [b64EncodeCmd_of_ready hready] at hu
  obtain ⟨hlen, -, -, hspace, -⟩ := hready
  rw [← length_encodedBytes] at hspace
  have hx0 : u.x[0] = dest2 := by simp [hu]
  have hx1 : u.x[1] = s.x[0] := by simp [hu]
  have hx2 : u.x[2].toNat = encLen s.x[2].toNat := by
    simp only [hu, Vector.getElem_set_self, BitVec.toNat_ofNat]
    exact Nat.mod_eq_of_lt (by omega)
  have hmem : u.mem = writeBytes s.mem s.x[0].toNat (b64Encode (sourceBytes s)) := by rw [hu, storeAndReturn_mem]
  have hsource : sourceBytes u = b64Encode (sourceBytes s) := by
    rw [sourceBytes, hx1, hx2, hmem, ← length_encodedBytes, readBytes_writeBytes_same hspace hm]
  have hlegal : b64Decode (sourceBytes u) = (sourceBytes s, true) := by rw [hsource, b64Decode_b64Encode]
  have hfit : (sourceBytes s).length ≤ decLen (encLen s.x[2].toNat) :=
    (length_sourceBytes s).trans_le (le_decLen_encLen _)
  have hend := b64DecodeCmd_legal hranges (by rwa [hx1, hx2]) hlegal
    (by rw [hx0]; exact fun k hk => hwrite.2 k (hk.trans_le hfit))
  refine ⟨_, rfl, ?_⟩
  rw [hend]
  refine ⟨rfl, ?_, fun k hk => ?_⟩
  · rw [storeAndReturn_x0, length_sourceBytes, BitVec.ofNat_toNat, BitVec.setWidth_eq]
  · rw [storeAndReturn_mem, hx0]
    exact readByte_writeBytes_of_getElem? (getElem?_readBytes _ _ hk) (hwrite.1.mono hfit)
      (hmem ▸ wf_writeBytes_of_inSpace hspace hm)

end Sys2Proof.Machine

/-! ## Blowfish (R121 to R134)

The cipher in both directions is one function of the order of its round keys (`bfCrypt`), and the opposite order undoes
it. Then the schedule: the key's bytes taken cyclically, and the fill as one loop of 521 turns. Last the commands. -/

namespace Sys2Proof.Machine

/-! ### The rounds -/

/-- The halves after the first `n` rounds, under the round keys `key 0, key 1, …` (R122, R123). -/
def bfRounds (sc : Schedule) (key : Nat → Word) (b : Word × Word) (n : Nat) : Word × Word :=
  forUp n (fun i b => bfRound sc (key i) b) b

@[simp] theorem bfRounds_zero (sc : Schedule) (key : Nat → Word) (b : Word × Word) : bfRounds sc key b 0 = b := rfl
theorem bfRounds_succ (sc : Schedule) (key : Nat → Word) (b : Word × Word) (n : Nat) :
    bfRounds sc key b (n + 1) = bfRound sc (key n) (bfRounds sc key b n) := rfl

/-- The exchange and the whitening: what the left and the right half of the result are XORed with. -/
def bfWhiten (left right : Word) (b : Word × Word) : Word × Word := (b.2 ^^^ left, b.1 ^^^ right)

theorem bfWhiten_bfWhiten (k w : Word) (b : Word × Word) : bfWhiten w k (bfWhiten k w b) = b := by
  simp [bfWhiten]

/-- The cipher under a sequence of 18 keys: 16 rounds, then the whitening. -/
def bfCrypt (sc : Schedule) (key : Nat → Word) (b : Word × Word) : Word × Word :=
  bfWhiten (key 17) (key 16) (bfRounds sc key b 16)

theorem bfE_eq_bfCrypt (sc : Schedule) (xl xr : Word) : bfE sc xl xr = bfCrypt sc sc.pw (xl, xr) := rfl
theorem bfD_eq_bfCrypt (sc : Schedule) (xl xr : Word) :
    bfD sc xl xr = bfCrypt sc (fun i => sc.pw (17 - i)) (xl, xr) := rfl

/-- Settles O37: L and R are the halves that `bfRounds` gives. -/
theorem encryptionIsSixteenRounds : Obligations.EncryptionIsSixteenRounds := by
  unfold Obligations.EncryptionIsSixteenRounds
  intro sc xl xr
  exact ⟨fun i => (bfRounds sc sc.pw (xl, xr) i).1, fun i => (bfRounds sc sc.pw (xl, xr) i).2,
    fun i => bfF sc ((bfRounds sc sc.pw (xl, xr) i).1 ^^^ sc.pw i), rfl, rfl, fun _ _ => ⟨rfl, rfl, rfl⟩,
    bfE_eq_bfCrypt sc xl xr⟩

/-- Settles O38: the rounds of O37 under the keys in the opposite order. -/
theorem decryptionRunsTheKeysBackwards : Obligations.DecryptionRunsTheKeysBackwards := by
  unfold Obligations.DecryptionRunsTheKeysBackwards
  intro sc xl xr
  exact ⟨fun i => (bfRounds sc (fun i => sc.pw (17 - i)) (xl, xr) i).1,
    fun i => (bfRounds sc (fun i => sc.pw (17 - i)) (xl, xr) i).2, rfl, rfl, fun _ _ => ⟨rfl, rfl⟩,
    bfD_eq_bfCrypt sc xl xr⟩

/-- The Feistel step: between two whitenings, a round takes back the round before it. The keys `k` and `w` of the two
whitenings pass through. -/
theorem bfRound_bfWhiten_bfRound (sc : Schedule) (k w key : Word) (b : Word × Word) :
    bfRound sc k (bfWhiten k w (bfRound sc key b)) = bfWhiten w key b := by
  have hhalf : b.1 ^^^ key ^^^ k ^^^ k = b.1 ^^^ key := by simp
  simp only [bfRound, bfWhiten, hhalf, Prod.mk.injEq, and_true]
  rw [BitVec.xor_assoc (b.2 ^^^ _), BitVec.xor_comm w, ← BitVec.xor_assoc, BitVec.xor_assoc b.2, BitVec.xor_self,
    BitVec.xor_zero]

/-- Running the keys backwards from the whitened halves takes back one round after the other. -/
theorem bfRounds_backwards (sc : Schedule) {key back : Nat → Word} {n : Nat} (hback : ∀ i < n, back i = key (n + 1 - i))
    (b : Word × Word) {j m : Nat} (hj : m + j = n) :
    bfRounds sc back (bfWhiten (key (n + 1)) (key n) (bfRounds sc key b n)) j =
      bfWhiten (key (m + 1)) (key m) (bfRounds sc key b m) := by
  induction j generalizing m with
  | zero =>
    obtain rfl : m = n := hj
    rfl
  | succ j ih =>
    have hkey : back j = key (m + 2) := by
      rw [hback j (by omega), show n + 1 - j = m + 2 by omega]
    rw [bfRounds_succ, ih (m := m + 1) (by omega), bfRounds_succ, hkey, bfRound_bfWhiten_bfRound]

/-- The opposite order of the keys undoes the cipher. -/
theorem bfCrypt_backwards (sc : Schedule) {key back : Nat → Word} (hback : ∀ i ≤ 17, back i = key (17 - i))
    (b : Word × Word) : bfCrypt sc back (bfCrypt sc key b) = b := by
  have hrounds := bfRounds_backwards sc (n := 16) (fun i hi => hback i (by omega)) b (Nat.zero_add 16)
  rw [bfCrypt, bfCrypt, hrounds, hback 17 le_rfl, hback 16 (by decide), bfRounds_zero, bfWhiten_bfWhiten]

/-- Settles O39: each direction runs the other's keys backwards. -/
theorem decryptionUndoesEncryption : Obligations.DecryptionUndoesEncryption := by
  unfold Obligations.DecryptionUndoesEncryption
  intro sc xl xr
  simp only [bfE_eq_bfCrypt, bfD_eq_bfCrypt, Prod.mk.eta]
  refine ⟨bfCrypt_backwards sc (fun _ _ => rfl) _, bfCrypt_backwards sc (fun i hi => ?_) _⟩
  rw [Nat.sub_sub_self hi]

/-! ### Key mixing -/

/-- Four bytes shifted in one after the other, the first most significant. -/
theorem shiftIn_four_bytes (a b c d : Byte) :
    ((((0#32 <<< 8 ||| a.setWidth 32) <<< 8 ||| b.setWidth 32) <<< 8 ||| c.setWidth 32) <<< 8 ||| d.setWidth 32) =
      (a ++ b ++ c ++ d : BitVec 32) := by
  refine BitVec.eq_of_getLsbD_eq fun i hi => ?_
  simp only [BitVec.getLsbD_or, BitVec.getLsbD_shiftLeft, BitVec.getLsbD_setWidth, BitVec.getLsbD_append, hi]
  grind

/-- The word of R127 that starts at key byte `c`, the bytes taken cyclically. -/
def cyclicWord (key : List Byte) (c : Nat) : Word :=
  key.getD (c % key.length) 0#8 ++ key.getD ((c + 1) % key.length) 0#8 ++ key.getD ((c + 2) % key.length) 0#8 ++
    key.getD ((c + 3) % key.length) 0#8

/-- The inner loop reads that word and moves the cursor on by 4. -/
theorem keyWord_mod_length (key : List Byte) (c : Nat) :
    keyWord key (c % key.length) = (cyclicWord key c, (c + 4) % key.length) := by
  simp only [keyWord, forUp_succ, forUp_zero, Nat.mod_add_mod, Nat.add_assoc, Nat.reduceAdd, shiftIn_four_bytes]
  rfl

@[simp] theorem Schedule.setP_s (i : Nat) (v : Word) (sc : Schedule) : (sc.setP i v).s = sc.s := rfl

theorem Schedule.pw_eq_getElem (sc : Schedule) {i : Nat} (hi : i < 18) : sc.pw i = sc.p[i] := by
  simp [Schedule.pw, Vector.getD, hi]

theorem Schedule.pw_setP (i : Nat) (v : Word) (sc : Schedule) {j : Nat} (hj : j < 18) :
    (sc.setP i v).pw j = if i = j then v else sc.pw j := by
  simp only [Schedule.pw_eq_getElem _ hj, Schedule.setP, Vector.getElem_setIfInBounds]

/-- After `n` turns of R127's outer loop: the S-boxes as before, the cursor at byte `4 n`, the first `n` words mixed. -/
structure MixedTo (key : List Byte) (sc : Schedule) (n : Nat) (a : Schedule × Nat) : Prop where
  boxes  : a.1.s = sc.s
  cursor : a.2 = 4 * n % key.length
  words  : ∀ i < 18, a.1.pw i = if i < n then sc.pw i ^^^ cyclicWord key (4 * i) else sc.pw i

theorem mixedTo_zero (key : List Byte) (sc : Schedule) : MixedTo key sc 0 (sc, 0) :=
  ⟨rfl, (Nat.zero_mod _).symm, fun _ _ => rfl⟩

theorem MixedTo.succ {key : List Byte} {sc : Schedule} {n : Nat} {a : Schedule × Nat} (h : MixedTo key sc n a)
    (hn : n < 18) :
    MixedTo key sc (n + 1) (a.1.setP n (a.1.pw n ^^^ (keyWord key a.2).1), (keyWord key a.2).2) := by
  obtain ⟨hboxes, hcursor, hwords⟩ := h
  rw [hcursor, keyWord_mod_length]
  refine ⟨hboxes, rfl, fun i hi => ?_⟩
  rw [Schedule.pw_setP _ _ _ hi, hwords i hi, hwords n hn]
  rcases lt_trichotomy i n with hlt | rfl | hgt
  · simp [hlt.ne', hlt, Nat.lt_succ_of_lt hlt]
  · simp
  · simp [hgt.ne, hgt.not_gt, Nat.not_lt.2 (Nat.succ_le_of_lt hgt)]

theorem mixKey_mixedTo (key : List Byte) (sc : Schedule) : ∃ c, MixedTo key sc 18 (mixKey key sc, c) :=
  ⟨_, forUp_invariant (MixedTo key sc) 18 _ (sc, 0) (mixedTo_zero key sc) fun _ _ hn h => h.succ hn⟩

/-- Settles O40: `MixedTo` at the end of the loop. A key of no bytes would do too: its bytes read as 0. -/
theorem keyMixesCyclicallyIntoP : Obligations.KeyMixesCyclicallyIntoP := by
  unfold Obligations.KeyMixesCyclicallyIntoP
  intro key sc _
  obtain ⟨_, hboxes, -, hwords⟩ := mixKey_mixedTo key sc
  exact ⟨hboxes, fun i hi => (hwords i hi).trans (if_pos hi)⟩

/-! ### The fill as one loop -/

/-- A loop of `m + n` turns is one of `m`, then one of `n`. -/
theorem forUp_add {α : Type} (m n : Nat) (body : Nat → α → α) (a : α) :
    forUp (m + n) body a = forUp n (fun i => body (m + i)) (forUp m body a) := by
  induction n with
  | zero => rfl
  | succ n ih => rw [← Nat.add_assoc, forUp_succ, ih, forUp_succ]

/-- Only the turns that the loop takes matter. -/
theorem forUp_congr {α : Type} {n : Nat} {body body' : Nat → α → α} (h : ∀ i < n, body i = body' i) (a : α) :
    forUp n body a = forUp n body' a := by
  induction n with
  | zero => rfl
  | succ n ih => rw [forUp_succ, forUp_succ, ih fun i hi => h i (by omega), h n n.lt_succ_self]

/-- The two words of P that turn `m` of R128 fills. -/
def fillP (m : Nat) (l r : Word) (sc : Schedule) : Schedule := (sc.setP (2 * m) l).setP (2 * m + 1) r

/-- The two words of an S-box that its turn `m` fills. -/
def fillBox (k : Fin 4) (m : Nat) (l r : Word) (sc : Schedule) : Schedule :=
  (sc.setS k (2 * m) l).setS k (2 * m + 1) r

/-- What turn `m` of the 521 fills: 9 turns for P, then 128 for each S-box. -/
def fillTurn (m : Nat) : Word → Word → Schedule → Schedule :=
  if m < 9 then fillP m else fillBox (Fin.ofNat 4 ((m - 9) / 128)) ((m - 9) % 128)

theorem fillTurn_p {m : Nat} (h : m < 9) : fillTurn m = fillP m := if_pos h

theorem fillTurn_box (k : Fin 4) {m : Nat} (h : m < 128) : fillTurn (9 + 128 * k.val + m) = fillBox k m := by
  have hbox : Fin.ofNat 4 ((9 + 128 * k.val + m - 9) / 128) = k := Fin.ext (by simp only [Fin.ofNat]; omega)
  rw [fillTurn, if_neg (by omega), hbox]
  congr 1
  omega

/-- The block and the schedule after `n` of the 521 turns. -/
def fillChain (sc : Schedule) (n : Nat) : Fill :=
  forUp n (fun m f => fillStep (fillTurn m) f) { sc := sc, l := 0#32, r := 0#32 }

theorem fillChain_succ (sc : Schedule) (n : Nat) : fillChain sc (n + 1) = fillStep (fillTurn n) (fillChain sc n) := rfl

theorem fillChain_p (sc : Schedule) : fillChain sc 9 =
    forUp 9 (fun m f => fillStep (fillP m) f) { sc := sc, l := 0#32, r := 0#32 } :=
  forUp_congr (fun m hm => by rw [fillTurn_p hm]) _

/-- The turns of an S-box, after all before it. -/
theorem fillChain_box (sc : Schedule) (k : Fin 4) : fillChain sc (9 + 128 * k.val + 128) =
    forUp 128 (fun m f => fillStep (fillBox k m) f) (fillChain sc (9 + 128 * k.val)) := by
  rw [fillChain, forUp_add]
  exact forUp_congr (fun m hm => by rw [fillTurn_box k hm]) _

theorem fillTables_eq_fillChain (sc : Schedule) : fillTables sc = (fillChain sc 521).sc := by
  have h3 := fillChain_box sc 3
  have h2 := fillChain_box sc 2
  have h1 := fillChain_box sc 1
  have h0 := fillChain_box sc 0
  simp only [Fin.isValue, Fin.coe_ofNat_eq_mod, Nat.reduceMod, Nat.reduceMul, Nat.reduceAdd] at h0 h1 h2 h3
  rw [h3, h2, h1, h0, fillChain_p]
  rfl

/-- Settles O41: the links are the turns of `fillChain`, and a turn fills what its number says. -/
theorem fillIsOneChainOfEncryptions : Obligations.FillIsOneChainOfEncryptions := by
  unfold Obligations.FillIsOneChainOfEncryptions
  intro sc
  refine ⟨fillChain sc, rfl, fun m _ => ⟨?_, fun hm => ?_, fun k hlow hhigh => ?_⟩, fillTables_eq_fillChain sc⟩
  · rw [fillChain_succ]
    rfl
  · rw [fillChain_succ, fillTurn_p hm]
    rfl
  · obtain ⟨n, rfl⟩ := Nat.exists_eq_add_of_le hlow
    rw [fillChain_succ, fillTurn_box k (by omega), show 9 + 128 * k.val + n - 9 - 128 * k.val = n by omega]
    rfl

/-! ### BF_INIT -/

theorem keySchedule_eq_fillTables (key : List Byte) : keySchedule key = fillTables (mixKey key initialSchedule) := by
  unfold keySchedule
  exact rfl

theorem initialSchedule_pw {i : Nat} (hi : i < 18) : initialSchedule.pw i = piTable.getD i 0#32 := by
  rw [Schedule.pw_eq_getElem _ hi, initialSchedule, Vector.getElem_ofFn]
  rfl

theorem initialSchedule_box (k : Fin 4) (b : Byte) :
    initialSchedule.box k b = piTable.getD (18 + 256 * k.val + b.toNat) 0#32 := by
  simp only [initialSchedule, Schedule.box, Fin.getElem_fin, Vector.getElem_ofFn, piWord]

/-- R152's check values of the table. -/
theorem piTable_checks : piTable.length = 1042 ∧ piTable.foldl (· ^^^ ·) 0#32 = 0x6FFA520A#32 ∧
    piTable.foldl (· + ·) 0#32 = 0x6BBF03AC#32 := by
  decide +kernel

section
variable {s : State}

theorem bfInit_badLength (h : s.x[1].toNat = 0 ∨ 56 < s.x[1].toNat) : bfInit s = raise .badKeyLen s :=
  if_pos (by omega)

variable (hmin : 1 ≤ s.x[1].toNat) (hmax : s.x[1].toNat ≤ 56)
include hmin hmax

theorem bfInit_badRange (h : ¬ InSpace s.x[0].toNat s.x[1].toNat) : bfInit s = raise .badBuffer s := by
  have hok := Bool.eq_false_iff.2 (mt (Range.ok_iff _ _).1 h)
  simp [bfInit, hmin, hmax, hok]

theorem bfInit_refused (h : InSpace s.x[0].toNat s.x[1].toNat)
    (hrefuses : Refuses s s.x[0].toNat s.x[1].toNat false) : bfInit s = midFault .busError .bfInit s := by
  have hok := (Range.ok_iff _ _).2 h
  simp [bfInit, hmin, hmax, hok, loadBytes_of_refuses hrefuses]

theorem bfInit_keyed (h : Readable s s.x[0].toNat s.x[1].toNat) : bfInit s =
    finish { s with sched := keySchedule (readBytes s.mem s.x[0].toNat s.x[1].toNat), keyed := true } := by
  have hok := (Range.ok_iff _ _).2 h.1
  simp [bfInit, hmin, hmax, hok, loadBytes_of_readable h]

end

/-- A refused key byte spoils the Blowfish engine alone: BF_INIT writes no memory (R51). -/
theorem midFault_bfInit_spec (c : FaultCode) (s : State) :
    EntersFault c s (midFault c .bfInit s) ∧ (midFault c .bfInit s).x = s.x ∧ KeepsMemory s (midFault c .bfInit s) ∧
      KeepsMersenne s (midFault c .bfInit s) := by
  obtain ⟨henters, hx, hmem, -, hmersenne⟩ := midFault_spec c .bfInit s
  exact ⟨henters, hx, fun a => hmem a fun _ hr => (List.not_mem_nil hr).elim, hmersenne (by decide)⟩

/-- Settles O42: the table is `piTable`, and each clause on the state is one branch of `bfInit`. -/
theorem bfInitBuildsTheSchedule : Obligations.BfInitBuildsTheSchedule := by
  unfold Obligations.BfInitBuildsTheSchedule
  refine ⟨rfl, ⟨piTable, piTable_checks.1, fun _ => initialSchedule_pw, initialSchedule_box, piTable_checks.2⟩, ?_, ?_⟩
  · simp (disch := decide) only [initialSchedule_box, initialSchedule_pw]
    decide +kernel
  · rintro s _ _ rfl rfl
    refine ⟨fun hlen => ⟨_, rfl, ?_⟩, fun hmin hmax hbad => ⟨_, rfl, ?_⟩, fun hmin hmax hspace hrefuses => ⟨_, rfl, ?_⟩,
      fun hmin hmax hread => ⟨_, rfl, ?_⟩⟩
    · rw [bfInit_badLength hlen]
      exact raise_faultsCleanly .badKeyLen s
    · rw [bfInit_badRange hmin hmax hbad]
      exact raise_faultsCleanly .badBuffer s
    · rw [bfInit_refused hmin hmax hspace hrefuses]
      exact midFault_bfInit_spec .busError s
    · rw [bfInit_keyed hmin hmax hread]
      refine ⟨⟨rfl, rfl, rfl, rfl, rfl, rfl, rfl⟩, fun _ _ => rfl, rfl, fun _ => rfl, rfl, keySchedule_eq_fillTables _⟩

/-! ### BF_ENCRYPT and BF_DECRYPT -/

section
variable (f : Schedule → Word → Word → Word × Word) {s : State}

theorem bfBlock_notKeyed (h : s.keyed = false) : bfBlock f s = raise .notKeyed s := by
  simp [bfBlock, h]

theorem bfBlock_keyed (h : s.keyed = true) : bfBlock f s =
    finish (setX 1 (f s.sched s.x[0] s.x[1]).2 (setX 0 (f s.sched s.x[0] s.x[1]).1 s)) :=
  if_pos h

variable (h : s.keyed = true)
include h

theorem bfBlock_writesOnlyX : WritesOnlyX [0, 1] s (bfBlock f s) := by
  rw [bfBlock_keyed f h]
  refine finish_writesOnlyX (x := (setX 1 _ (setX 0 _ s)).x) fun r hr => ?_
  obtain ⟨h0, h1⟩ : r ≠ 0 ∧ r ≠ 1 := by simpa using hr
  rw [setX_get, if_neg h1, setX_get, if_neg h0]

theorem bfBlock_halves : ((bfBlock f s).x[0], (bfBlock f s).x[1]) = f s.sched s.x[0] s.x[1] := by
  simp [bfBlock_keyed f h]

/-- A block function that undoes another restores X after it. -/
theorem bfBlock_undoes {f g : Schedule → Word → Word → Word × Word}
    (hundo : g s.sched (f s.sched s.x[0] s.x[1]).1 (f s.sched s.x[0] s.x[1]).2 = (s.x[0], s.x[1])) :
    (bfBlock g (bfBlock f s)).x = s.x := by
  obtain ⟨-, hkept, ⟨hsched, hkeyed⟩, -⟩ := bfBlock_writesOnlyX f h
  replace hkeyed := hkeyed.trans h
  obtain ⟨-, hkept', -⟩ := bfBlock_writesOnlyX g hkeyed
  have hhalves : ((bfBlock g (bfBlock f s)).x[0], (bfBlock g (bfBlock f s)).x[1]) = (s.x[0], s.x[1]) := by
    rw [bfBlock_halves g hkeyed, hsched, ← hundo, ← bfBlock_halves f h]
  obtain ⟨h0, h1⟩ := Prod.mk.inj hhalves
  have hx : ∀ r : Fin 8, (bfBlock g (bfBlock f s)).x[r] = s.x[r] := fun r => by
    by_cases hr : r ∈ [0, 1]
    · rcases List.mem_pair.1 hr with rfl | rfl
      · exact h0
      · exact h1
    · exact (hkept' r hr).trans (hkept r hr)
  exact Vector.ext fun i hi => hx ⟨i, hi⟩

end

/-- Settles O44: the two branches of `bfBlock`, and O39 for the restore. -/
theorem blockCommandsCipherTheRegisters : Obligations.BlockCommandsCipherTheRegisters := by
  unfold Obligations.BlockCommandsCipherTheRegisters
  refine ⟨rfl, rfl, fun s => ⟨fun h => ⟨⟨_, rfl, ?_⟩, _, rfl, ?_⟩,
    fun h => ⟨⟨_, rfl, ?_, ?_, _, rfl, ?_⟩, _, rfl, ?_, ?_⟩⟩⟩
  · rw [bfBlock_notKeyed bfE h]
    exact raise_faultsCleanly .notKeyed s
  · rw [bfBlock_notKeyed bfD h]
    exact raise_faultsCleanly .notKeyed s
  · exact bfBlock_writesOnlyX bfE h
  · exact bfBlock_halves bfE h
  · exact bfBlock_undoes h (decryptionUndoesEncryption _ _ _).1
  · exact bfBlock_writesOnlyX bfD h
  · exact bfBlock_halves bfD h

end Sys2Proof.Machine

/-! ## Mersenne Twister (R162 to R175)

The loops over the vector first: each is followed turn by turn, by what the words already rewritten are. Then the
draws, the two floating-point forms and the range, and last the commands over memory. -/

namespace Sys2Proof.Machine

/-! ### The words of a vector -/

theorem mtAt_eq_getElem (mt : Vector Word 624) {i : Nat} (h : i < 624) : mtAt mt i = mt[i] := by
  simp [mtAt, Vector.getD, h]

theorem mtAt_setIfInBounds (mt : Vector Word 624) (i : Nat) (v : Word) {j : Nat} (hj : j < 624) :
    mtAt (mt.setIfInBounds i v) j = if i = j then v else mtAt mt j := by
  rw [mtAt_eq_getElem _ hj, mtAt_eq_getElem _ hj, Vector.getElem_setIfInBounds]

theorem mtAt_setIfInBounds_same (mt : Vector Word 624) (v : Word) {i : Nat} (hi : i < 624) :
    mtAt (mt.setIfInBounds i v) i = v :=
  (mtAt_setIfInBounds mt i v hi).trans (if_pos rfl)

theorem mtAt_setIfInBounds_other (mt : Vector Word 624) (v : Word) {i j : Nat} (hj : j < 624) (h : i ≠ j) :
    mtAt (mt.setIfInBounds i v) j = mtAt mt j :=
  (mtAt_setIfInBounds mt i v hj).trans (if_neg h)

/-! ### Commands that write the engine -/

/-- A command that sets the engine and at most some registers, and ends. -/
theorem finish_writesXAndMersenne {rs : List (Fin 8)} {s : State} {x : Vector Word 8} (g : Generator)
    (h : ∀ r : Fin 8, r ∉ rs → x[r] = s.x[r]) : WritesXAndMersenne rs s (finish { s with x := x, gen := g }) :=
  ⟨⟨rfl, rfl, rfl, rfl, rfl, rfl, rfl⟩, h, ⟨rfl, rfl⟩, fun _ => rfl⟩

theorem finish_gen_writesXAndMersenne (g : Generator) (s : State) :
    WritesXAndMersenne [] s (finish { s with gen := g }) :=
  finish_writesXAndMersenne (x := s.x) g fun _ _ => rfl

theorem finish_setX_writesXAndMersenne (r : Fin 8) (v : Word) (g : Generator) (s : State) :
    WritesXAndMersenne [r] s (finish (setX r v { s with gen := g })) :=
  finish_writesXAndMersenne (x := s.x.set r v) g fun q hq => (setX_get r q v s).trans (if_neg (by simpa using hq))

/-- A fault in the memory accesses of a generator command that writes no memory frees the generator alone. -/
theorem midFault_mersenne_spec {i : Instr} (hengine : engineOf i = .mersenne) (c : FaultCode) {s : State}
    (hrange : writeRanges i s = []) :
    EntersFault c s (midFault c i s) ∧ (midFault c i s).x = s.x ∧ KeepsMemory s (midFault c i s) ∧
      KeepsBlowfish s (midFault c i s) := by
  obtain ⟨henters, hx, hmem, hblowfish, -⟩ := midFault_spec c i s
  rw [hrange] at hmem
  rw [hengine] at hblowfish
  exact ⟨henters, hx, fun a => hmem a fun _ hr => (List.not_mem_nil hr).elim, hblowfish (by decide)⟩

/-! ### INIT (R162) -/

/-- Word `i` of R162 from the word before it. -/
def seedWord (prev : Word) (i : Nat) : Word := 1812433253#32 * (prev ^^^ (prev >>> 30)) + BitVec.ofNat 32 i

/-- After `n` turns of R162: the words up to `n` follow the recurrence from the seed. -/
structure SeededTo (seed : Word) (n : Nat) (mt : Vector Word 624) : Prop where
  first : mtAt mt 0 = seed
  later : ∀ i < n, mtAt mt (i + 1) = seedWord (mtAt mt i) (i + 1)

theorem seededTo_zero (seed : Word) (mt : Vector Word 624) : SeededTo seed 0 (mt.setIfInBounds 0 seed) :=
  ⟨mtAt_setIfInBounds_same mt seed (by decide), fun _ hi => (Nat.not_lt_zero _ hi).elim⟩

theorem SeededTo.succ {seed : Word} {n : Nat} {mt : Vector Word 624} (h : SeededTo seed n mt) (hn : n < 623) :
    SeededTo seed (n + 1) (mt.setIfInBounds (n + 1) (seedWord (mtAt mt n) (n + 1))) := by
  obtain ⟨hfirst, hlater⟩ := h
  refine ⟨(mtAt_setIfInBounds_other mt _ (by decide) n.succ_ne_zero).trans hfirst, fun i hi => ?_⟩
  rw [mtAt_setIfInBounds_other mt _ (j := i) (by omega) (by omega)]
  rcases Nat.lt_succ_iff_lt_or_eq.1 hi with hlt | rfl
  · rw [mtAt_setIfInBounds_other mt _ (by omega) (by omega), hlater i hlt]
  · rw [mtAt_setIfInBounds_same mt _ (by omega)]

theorem mtInit_seededTo (seed : Word) : SeededTo seed 623 (mtInit seed) := by
  unfold mtInit
  exact forUp_invariant (SeededTo seed) 623 _ _ (seededTo_zero seed _) fun _ _ hn h => h.succ hn

/-- Settles O48: the vector of MT_SEED is the one that `mtInit_seededTo` describes. -/
theorem seedFillsByTheRecurrence : Obligations.SeedFillsByTheRecurrence := by
  unfold Obligations.SeedFillsByTheRecurrence
  refine ⟨rfl, fun s => ⟨mtSeed s, rfl, finish_gen_writesXAndMersenne _ s, rfl, rfl, ?_⟩⟩
  obtain ⟨hfirst, hlater⟩ := mtInit_seededTo s.x[0]
  exact ⟨hfirst, hlater⟩

/-! ### INIT_ARRAY (R163) -/

/-- How many turns the first pass has. -/
abbrev keyTurns (key : List Word) : Nat := max 624 key.length

/-- Turn `n` of the two passes. -/
def mixTurn (key : List Word) (n : Nat) (m : Mix) : Mix :=
  if n < keyTurns key then mixKeyTurn key m else mixPosTurn m

/-- The vector and the cursors after `n` turns. -/
def mixChain (key : List Word) (n : Nat) : Mix :=
  forUp n (mixTurn key) { mt := mtInit 19650218#32, i := 1, j := 0 }

theorem mixChain_succ (key : List Word) (n : Nat) : mixChain key (n + 1) = mixTurn key n (mixChain key n) := rfl

theorem mixChain_keyTurns (key : List Word) : mixChain key (keyTurns key) =
    forUp (keyTurns key) (fun _ m => mixKeyTurn key m) { mt := mtInit 19650218#32, i := 1, j := 0 } :=
  forUp_congr (fun _ hn => funext fun _ => if_pos hn) _

theorem mixChain_keyTurns_add (key : List Word) (n : Nat) : mixChain key (keyTurns key + n) =
    forUp n (fun _ m => mixPosTurn m) (mixChain key (keyTurns key)) := by
  rw [mixChain, forUp_add]
  exact forUp_congr (fun i _ => funext fun _ => if_neg (by omega)) _

theorem mtInitArray_eq_mixChain (key : List Word) :
    mtInitArray key = (mixChain key (keyTurns key + 623)).mt.setIfInBounds 0 0x80000000#32 := by
  rw [mixChain_keyTurns_add, mixChain_keyTurns]
  unfold mtInitArray
  rfl

/-- What a turn of either pass does to the vector and the first cursor, from the value that it writes. -/
def Mix.put (v : Word) (j : Nat) (m : Mix) : Mix :=
  ({ mt := m.mt.setIfInBounds m.i v, i := m.i + 1, j := j } : Mix).wrap

theorem Mix.wrap_j (m : Mix) : m.wrap.j = m.j := by
  unfold Mix.wrap
  split_ifs <;> rfl

theorem Mix.put_of_lt (v : Word) (j : Nat) {m : Mix} (h : m.i < 623) :
    m.put v j = { mt := m.mt.setIfInBounds m.i v, i := m.i + 1, j := j } :=
  if_neg (by simp only; omega)

theorem Mix.put_of_eq (v : Word) (j : Nat) {m : Mix} (h : m.i = 623) :
    m.put v j = { mt := (m.mt.setIfInBounds 623 v).setIfInBounds 0 v, i := 1, j := j } := by
  have hlast := mtAt_setIfInBounds_same m.mt v (i := 623) (by decide)
  simp [Mix.put, Mix.wrap, h, hlast]

theorem Mix.put_words (v : Word) (j : Nat) {m : Mix} (h : m.i ≤ 623) {k : Nat} (hk : k < 624) :
    mtAt (m.put v j).mt k = if k = m.i ∨ (k = 0 ∧ m.i = 623) then v else mtAt m.mt k := by
  rcases h.lt_or_eq with hlt | heq
  · rw [Mix.put_of_lt v j hlt, mtAt_setIfInBounds _ _ _ hk]
    simp [hlt.ne, eq_comm]
  · rw [Mix.put_of_eq v j heq, mtAt_setIfInBounds _ _ _ hk, mtAt_setIfInBounds _ _ _ hk, heq]
    by_cases h0 : k = 0
    · simp [h0]
    · simp [h0, Ne.symm h0, eq_comm]

theorem Mix.put_i (v : Word) (j : Nat) {m : Mix} {n : Nat} (h : m.i = 1 + n % 623) :
    (m.put v j).i = 1 + (n + 1) % 623 := by
  by_cases hlast : m.i = 623
  · rw [Mix.put_of_eq v j hlast]
    simp only
    omega
  · rw [Mix.put_of_lt v j (by omega)]
    simp only
    omega

/-- What the first pass writes (R163). -/
def keyTurnWord (key : List Word) (m : Mix) : Word :=
  (mtAt m.mt m.i ^^^ (m.prev * 1664525#32)) + key.getD m.j 0#32 + BitVec.ofNat 32 m.j

/-- What the second pass writes (R163). -/
def posTurnWord (m : Mix) : Word := (mtAt m.mt m.i ^^^ (m.prev * 1566083941#32)) - BitVec.ofNat 32 m.i

theorem mixPosTurn_eq_put (m : Mix) : mixPosTurn m = m.put (posTurnWord m) m.j := rfl

theorem mixKeyTurn_eq_put (key : List Word) (m : Mix) : mixKeyTurn key m =
    { m.put (keyTurnWord key m) (m.j + 1) with j := if key.length ≤ m.j + 1 then 0 else m.j + 1 } := by
  have hj : (m.put (keyTurnWord key m) (m.j + 1)).j = m.j + 1 := Mix.wrap_j _
  have hturn : mixKeyTurn key m = if key.length ≤ (m.put (keyTurnWord key m) (m.j + 1)).j then
      { m.put (keyTurnWord key m) (m.j + 1) with j := 0 } else m.put (keyTurnWord key m) (m.j + 1) := rfl
  rw [hturn, hj]
  split_ifs
  · rfl
  · exact congrArg (fun j => { m.put (keyTurnWord key m) (m.j + 1) with j := j }) hj

/-- The cursors before turn `n`: the first in every turn, the second up to the end of the first pass. -/
structure MixCursors (key : List Word) (n : Nat) (m : Mix) : Prop where
  word : m.i = 1 + n % 623
  key  : n ≤ keyTurns key → m.j = n % key.length

/-- The second cursor is set back at the end of the key. -/
theorem next_cursor_mod {j n len : Nat} (hlen : 0 < len) (h : j = n % len) :
    (if len ≤ j + 1 then 0 else j + 1) = (n + 1) % len := by
  have hj : j < len := h ▸ Nat.mod_lt n hlen
  rw [← Nat.mod_add_mod, ← h]
  split_ifs with hlast
  · rw [show j + 1 = len by omega, Nat.mod_self]
  · rw [Nat.mod_eq_of_lt (by omega)]

theorem mixChain_cursors {key : List Word} (hkey : key ≠ []) (n : Nat) : MixCursors key n (mixChain key n) := by
  refine forUp_invariant (MixCursors key) n (mixTurn key) _ ⟨rfl, fun _ => (Nat.zero_mod _).symm⟩ fun k m _ h => ?_
  obtain ⟨hi, hj⟩ := h
  rw [mixTurn]
  split_ifs with hk
  · rw [mixKeyTurn_eq_put]
    exact ⟨Mix.put_i _ _ hi, fun _ => next_cursor_mod (List.length_pos_iff.2 hkey) (hj hk.le)⟩
  · exact ⟨Mix.put_i _ _ hi, fun hlate => absurd hlate (by omega)⟩

/-- The vector after a turn: the word at the cursor takes the turn's value, and word 0 word 623's. -/
theorem mixTurn_words (key : List Word) (n : Nat) {m : Mix} (h : m.i ≤ 623) {k : Nat} (hk : k < 624) :
    mtAt (mixTurn key n m).mt k = if k = m.i ∨ (k = 0 ∧ m.i = 623) then
      (if n < keyTurns key then keyTurnWord key m else posTurnWord m) else mtAt m.mt k := by
  rw [mixTurn]
  by_cases hn : n < keyTurns key
  · rw [if_pos hn, if_pos hn, mixKeyTurn_eq_put]
    exact Mix.put_words _ _ h hk
  · rw [if_neg hn, if_neg hn, mixPosTurn_eq_put, Mix.put_words _ _ h hk]

/-- Settles O50: the vectors are those of `mixChain`, whose cursors `mixChain_cursors` gives. -/
theorem arraySeedingRunsTwoPasses : Obligations.ArraySeedingRunsTwoPasses := by
  unfold Obligations.ArraySeedingRunsTwoPasses
  intro key hkey
  refine ⟨fun n => (mixChain key n).mt, rfl, ?_, ?_⟩
  · rintro n - i p v hi rfl rfl k hk
    obtain ⟨hword, hpos⟩ := mixChain_cursors hkey n
    obtain rfl : (mixChain key n).i = i := hword.trans hi.symm
    dsimp only
    rw [mixChain_succ, mixTurn_words key n (by omega) hk]
    by_cases hn : n < keyTurns key
    · rw [if_pos hn, if_pos hn, keyTurnWord, hpos hn.le]
      rfl
    · rw [if_neg hn, if_neg hn]
      rfl
  · rw [mtInitArray_eq_mixChain]
    refine Vector.ext fun k hk => ?_
    rw [Vector.getElem_setIfInBounds, Vector.getElem_set]

/-! ### TWIST (R164) -/

/-- R164's word from the word, the next word and the word 397 ahead. -/
def twistWord (a b c : Word) : Word :=
  c ^^^ (((a &&& 0x80000000#32) ||| (b &&& 0x7FFFFFFF#32)) >>> 1) ^^^ (if b.getLsbD 0 then 0x9908B0DF#32 else 0#32)

/-- The bit that R164 tests is the next word's. -/
theorem twistTurn_eq (k : Nat) (mt : Vector Word 624) : twistTurn k mt =
    mt.setIfInBounds k (twistWord (mtAt mt k) (mtAt mt ((k + 1) % 624)) (mtAt mt ((k + 397) % 624))) := by
  have hbit (a b : Word) : ((a &&& 0x80000000#32) ||| (b &&& 0x7FFFFFFF#32)).getLsbD 0 = b.getLsbD 0 := by
    simp
  simp only [twistTurn, twistWord, hbit]

/-- After `n` turns of the TWIST of `old`: the words from `n` on are old, and each word below is made of old words and
of words rewritten before it. -/
structure TwistedTo (old : Vector Word 624) (n : Nat) (mt : Vector Word 624) : Prop where
  kept    : ∀ k, n ≤ k → k < 624 → mtAt mt k = mtAt old k
  twisted : ∀ k < n, mtAt mt k = twistWord (mtAt old k) (if k < 623 then mtAt old (k + 1) else mtAt mt 0)
    (if k < 227 then mtAt old (k + 397) else mtAt mt (k - 227))

theorem TwistedTo.succ {old mt : Vector Word 624} {n : Nat} (h : TwistedTo old n mt) (hn : n < 624) :
    TwistedTo old (n + 1) (twistTurn n mt) := by
  obtain ⟨hkept, htwisted⟩ := h
  rw [twistTurn_eq]
  have hother {k : Nat} (v : Word) (hk : k < 624) (hne : n ≠ k) : mtAt (mt.setIfInBounds n v) k = mtAt mt k :=
    mtAt_setIfInBounds_other mt v hk hne
  have hnext : mtAt mt ((n + 1) % 624) = if n < 623 then mtAt old (n + 1) else mtAt mt 0 := by
    split_ifs with hlast
    · rw [Nat.mod_eq_of_lt (by omega), hkept _ (by omega) (by omega)]
    · rw [show (n + 1) % 624 = 0 by omega]
  have hahead : mtAt mt ((n + 397) % 624) = if n < 227 then mtAt old (n + 397) else mtAt mt (n - 227) := by
    split_ifs with hnear
    · rw [Nat.mod_eq_of_lt (by omega), hkept _ (by omega) (by omega)]
    · rw [show (n + 397) % 624 = n - 227 by omega]
  refine ⟨fun k hk hk' => (hother _ hk' (by omega)).trans (hkept k (by omega) hk'), fun k hk => ?_⟩
  have hsecond (v : Word) : (if k < 623 then mtAt old (k + 1) else mtAt (mt.setIfInBounds n v) 0) =
      if k < 623 then mtAt old (k + 1) else mtAt mt 0 :=
    ite_congr rfl (fun _ => rfl) fun _ => hother v (by decide) (by omega)
  have hthird (v : Word) : (if k < 227 then mtAt old (k + 397) else mtAt (mt.setIfInBounds n v) (k - 227)) =
      if k < 227 then mtAt old (k + 397) else mtAt mt (k - 227) :=
    ite_congr rfl (fun _ => rfl) fun _ => hother v (by omega) (by omega)
  rw [hsecond, hthird]
  rcases Nat.lt_succ_iff_lt_or_eq.1 hk with hlt | rfl
  · rw [hother _ (by omega) hlt.ne', htwisted k hlt]
  · rw [mtAt_setIfInBounds_same _ _ hn, hnext, hahead, hkept k le_rfl hn]

theorem twist_twistedTo (mt : Vector Word 624) : TwistedTo mt 624 (twist mt) := by
  unfold twist
  exact forUp_invariant (TwistedTo mt) 624 twistTurn mt ⟨fun _ _ _ => rfl, fun _ hk => (Nat.not_lt_zero _ hk).elim⟩
    fun _ _ hn h => h.succ hn

/-- Settles O51: the three clauses are the cases of `TwistedTo` at the end of the loop. -/
theorem twistFeedsOnItsOwnWords : Obligations.TwistFeedsOnItsOwnWords := by
  unfold Obligations.TwistFeedsOnItsOwnWords
  intro mt mix hmix
  obtain rfl : mix = twistWord := funext fun a => funext fun b => funext fun c => hmix a b c
  obtain ⟨-, htwisted⟩ := twist_twistedTo mt
  refine ⟨fun k hk => ?_, fun k hlow hhigh => ?_, htwisted 623 (by decide)⟩
  · rw [htwisted k (by omega), if_pos (by omega), if_pos hk]
  · rw [htwisted k (by omega), if_pos hhigh, if_neg (by omega)]

/-! ### DRAW (R168) -/

section
variable {g : Generator}

theorem Generator.seeded_of_ne (h : g.mti ≠ 625#32) : g.seeded = g := if_neg h
theorem Generator.ready_of_lt (h : g.mti.toNat < 624) : g.ready = g := if_neg h.not_ge

theorem draw_of_lt (h : g.mti.toNat < 624) :
    draw g = (temper (mtAt g.mt g.mti.toNat), { mt := g.mt, mti := g.mti + 1#32 }) := by
  have hne : g.mti ≠ 625#32 := by rintro heq; simp [heq] at h
  rw [draw, Generator.seeded_of_ne hne, Generator.ready_of_lt h]

theorem draw_of_eq_624 (h : g.mti = 624#32) :
    draw g = (temper (mtAt (twist g.mt) 0), { mt := twist g.mt, mti := 1#32 }) := by
  have hseeded : g.seeded = g := Generator.seeded_of_ne (h ▸ by decide)
  have hready : g.ready = { mt := twist g.mt, mti := 0#32 } := if_pos (h ▸ by decide)
  rw [draw, hseeded, hready]
  rfl

/-- An unseeded engine draws as if seeded with 5489. -/
theorem draw_of_eq_625 (h : g.mti = 625#32) : draw g = draw { mt := mtInit 5489#32, mti := 624#32 } := by
  have hseeded : g.seeded = { mt := mtInit 5489#32, mti := 624#32 } := if_pos h
  rw [draw, hseeded]
  rfl

end

/-- Settles O52: the three cases of the cursor. -/
theorem randDrawsTheNextTemperedWord : Obligations.RandDrawsTheNextTemperedWord := by
  unfold Obligations.RandDrawsTheNextTemperedWord
  refine ⟨rfl, ?_, fun s hs => ⟨mtRand32 s, rfl, finish_setX_writesXAndMersenne .., ?_, ?_⟩⟩
  · rintro y0 _ _ _ _ rfl rfl rfl rfl
    rfl
  · obtain ⟨-, hle⟩ := draw_cursor s.gen hs
    refine (mtSeeded_eq_true_iff _).2 fun h => ?_
    have hcursor : (draw s.gen).2.mti = 625#32 := h
    simp [hcursor] at hle
  · have hx : (mtRand32 s).x[0] = (draw s.gen).1 := setX_zero_get ..
    have hgen : (mtRand32 s).gen = (draw s.gen).2 := rfl
    rw [hx, hgen]
    refine ⟨fun h => ?_, fun h => ?_, fun h => ?_⟩
    · rw [draw_of_lt h]
      exact ⟨rfl, rfl⟩
    · rw [draw_of_eq_624 h]
      exact ⟨rfl, rfl⟩
    · rw [draw_of_eq_625 h, draw_of_eq_624 rfl]
      exact ⟨rfl, rfl⟩

/-! ### Rounding (R14) -/

/-- A quotient is rounded down, or up by one. -/
theorem roundDiv_bounds (a b : Nat) : a / b ≤ roundDiv a b ∧ roundDiv a b ≤ a / b + 1 := by
  unfold roundDiv
  dsimp only
  split_ifs <;> omega

/-- It is rounded up only from the middle on. -/
theorem roundDiv_mul_le (a b : Nat) : 2 * (roundDiv a b * b) ≤ 2 * a + b := by
  have hdiv : b * (a / b) + a % b = a := Nat.div_add_mod a b
  have hup : (a / b + 1) * b = b * (a / b) + b := by ring
  have hdown : a / b * b = b * (a / b) := Nat.mul_comm _ _
  unfold roundDiv
  dsimp only
  split_ifs <;> omega

/-- Above the dropped bits a number has at most `prec`. -/
theorem lt_pow_excessBits (prec n : Nat) : n < 2 ^ prec * 2 ^ excessBits prec n := by
  rw [← Nat.pow_add]
  exact Nat.lt_log2_self.trans_le (Nat.pow_le_pow_right (by decide) (by unfold excessBits; omega))

/-- Where bits are dropped, the number has all of `prec` bits above them. -/
theorem pow_excessBits_le {prec n : Nat} (hprec : 0 < prec) (hn : n ≠ 0) :
    excessBits prec n = 0 ∨ 2 ^ (prec - 1) * 2 ^ excessBits prec n ≤ n := by
  refine or_iff_not_imp_left.2 fun h => ?_
  rw [← Nat.pow_add]
  exact (Nat.pow_le_pow_right (by decide) (by unfold excessBits at h ⊢; omega)).trans (Nat.log2_self_le hn)

theorem roundSig_le (prec n : Nat) : 2 * roundSig prec n ≤ 2 * n + 2 ^ excessBits prec n :=
  roundDiv_mul_le _ _

/-- How far rounding can raise a number, from a bound on the number. -/
theorem roundSig_le_of_lt {prec n k : Nat} (hprec : 0 < prec) (hn : n < 2 ^ (prec + k)) :
    2 * roundSig prec n ≤ 2 * n + 2 ^ k := by
  have hk : excessBits prec n ≤ k := by
    by_cases h0 : n = 0
    · rw [h0, excessBits, Nat.log2_zero]
      omega
    · have := (Nat.log2_lt h0).2 hn
      unfold excessBits
      omega
  exact (roundSig_le prec n).trans (Nat.add_le_add_left (Nat.pow_le_pow_right (by decide) hk) _)

theorem roundSig_zero (prec : Nat) : roundSig prec 0 = 0 := by
  simp [roundSig, roundDiv]

theorem roundSig_ne_zero {prec n : Nat} (hprec : 0 < prec) (hn : n ≠ 0) : roundSig prec n ≠ 0 := by
  have hle : 2 ^ excessBits prec n ≤ n :=
    (Nat.pow_le_pow_right (by decide) (by unfold excessBits; omega)).trans (Nat.log2_self_le hn)
  have hquot : 0 < n / 2 ^ excessBits prec n := Nat.div_pos hle (Nat.two_pow_pos _)
  exact (Nat.mul_pos (hquot.trans_le (roundDiv_bounds _ _).1) (Nat.two_pow_pos _)).ne'

/-- Fits in `bits` significant bits. -/
def FitsSig (bits n : Nat) : Prop := 2 ^ (n.log2 - (bits - 1)) ∣ n

/-- A rounded number fits the precision; where the significand is rounded up to `2 ^ prec` it is a power of two. -/
theorem roundSig_fitsSig {prec : Nat} (hprec : 0 < prec) (n : Nat) : FitsSig prec (roundSig prec n) := by
  by_cases hn : n = 0
  · rw [hn, roundSig_zero]
    exact Nat.dvd_zero _
  have hX := roundSig_ne_zero hprec hn
  have hquot : n / 2 ^ excessBits prec n < 2 ^ prec :=
    Nat.div_lt_of_lt_mul (Nat.mul_comm _ _ ▸ lt_pow_excessBits prec n)
  have hm : roundDiv n (2 ^ excessBits prec n) ≤ 2 ^ prec := (roundDiv_bounds _ _).2.trans hquot
  unfold FitsSig
  rcases hm.lt_or_eq with hlt | heq
  · have hlog : (roundSig prec n).log2 < prec + excessBits prec n := by
      rw [Nat.log2_lt hX, Nat.pow_add]
      exact Nat.mul_lt_mul_of_pos_right hlt (Nat.two_pow_pos _)
    exact (Nat.pow_dvd_pow 2 (by omega)).trans (Nat.dvd_mul_left _ _)
  · rw [roundSig, heq, ← Nat.pow_add, Nat.log2_two_pow]
    exact Nat.pow_dvd_pow 2 (by omega)

/-! ### Encodings (R14) -/

/-- The significand of `n` with its top bit: `n` scaled by a power of two to `frac + 1` bits. -/
def significand (frac n : Nat) : Nat :=
  if frac ≤ n.log2 then n / 2 ^ (n.log2 - frac) else n * 2 ^ (frac - n.log2)

theorem fracField_eq (frac n : Nat) : fracField frac n = significand frac n % 2 ^ frac := rfl

theorem significand_mul {frac n : Nat} (hfits : FitsSig (frac + 1) n) :
    significand frac n * 2 ^ n.log2 = n * 2 ^ frac := by
  unfold significand
  split_ifs with hle
  · have hdvd : 2 ^ (n.log2 - frac) ∣ n := hfits
    calc n / 2 ^ (n.log2 - frac) * 2 ^ n.log2
      _ = n / 2 ^ (n.log2 - frac) * 2 ^ (n.log2 - frac) * 2 ^ frac := by
        rw [Nat.mul_assoc, ← Nat.pow_add, Nat.sub_add_cancel hle]
      _ = n * 2 ^ frac := by rw [Nat.div_mul_cancel hdvd]
  · rw [Nat.mul_assoc, ← Nat.pow_add, Nat.sub_add_cancel (Nat.le_of_not_le hle)]

/-- The field holds the significand without its top bit, which is 1. -/
theorem add_fracField {frac n : Nat} (hn : n ≠ 0) (hfits : FitsSig (frac + 1) n) :
    2 ^ frac + fracField frac n = significand frac n := by
  have hmul := significand_mul hfits
  have hmin : 2 ^ frac ≤ significand frac n := by
    refine Nat.le_of_mul_le_mul_right (hmul ▸ ?_) (Nat.two_pow_pos n.log2)
    rw [Nat.mul_comm]
    exact Nat.mul_le_mul_right _ (Nat.log2_self_le hn)
  have hmax : significand frac n < 2 ^ frac + 2 ^ frac := by
    refine Nat.lt_of_mul_lt_mul_right (a := 2 ^ n.log2) (hmul ▸ ?_)
    have hlt := Nat.mul_lt_mul_of_pos_right (Nat.lt_log2_self (n := n)) (Nat.two_pow_pos frac)
    rw [Nat.pow_succ] at hlt
    linarith
  rw [fracField_eq, Nat.mod_eq_sub_mod hmin, Nat.mod_eq_of_lt (by omega), Nat.add_sub_cancel' hmin]

theorem fracField_lt (frac n : Nat) : fracField frac n < 2 ^ frac := Nat.mod_lt _ (Nat.two_pow_pos _)

/-- The value of the significand field: with the top bit it is the number, scaled. -/
theorem add_fracField_mul {frac n : Nat} (hn : n ≠ 0) (hfits : FitsSig (frac + 1) n) {d k : Nat}
    (hk : frac + d = k) : (2 ^ frac + fracField frac n) * 2 ^ (n.log2 + d) = n * 2 ^ k := by
  rw [← hk, add_fracField hn hfits, Nat.pow_add, Nat.pow_add, ← Nat.mul_assoc, ← Nat.mul_assoc, significand_mul hfits]

/-- The binary32 of `n / 2^k`. -/
theorem bits32_toNat {n k : Nat} (hn : n ≠ 0) (he : n.log2 + 127 - k < 256) :
    (bits32 n k).toNat = (n.log2 + 127 - k) * 2 ^ 23 + fracField 23 n := by
  have hf := fracField_lt 23 n
  rw [bits32, if_neg hn, BitVec.toNat_ofNat, Nat.mod_eq_of_lt (by omega)]

theorem bits64_toNat {n k : Nat} (hn : n ≠ 0) (he : n.log2 + 1023 - k < 2048) :
    (bits64 n k).toNat = (n.log2 + 1023 - k) * 2 ^ 52 + fracField 52 n := by
  have hf := fracField_lt 52 n
  rw [bits64, if_neg hn, BitVec.toNat_ofNat, Nat.mod_eq_of_lt (by omega)]

/-! ### MT_RANDFLOAT (R170) -/

theorem floatScale_eq : floatScale = 9007198986305544 := by decide +kernel

/-- The value of R170 over `2^85`. -/
def floatValue (r : Word) : Nat := roundSig 24 (roundSig 53 (r.toNat * floatScale))

theorem floatBits_eq (r : Word) : floatBits r = bits32 (floatValue r) 85 := rfl

theorem floatBits_zero : floatBits 0#32 = 0#32 := by decide

theorem floatValue_ne_zero {r : Word} (hr : r ≠ 0#32) : floatValue r ≠ 0 := by
  have hnat : r.toNat ≠ 0 := fun h => hr (BitVec.eq_of_toNat_eq h)
  have hscale : floatScale ≠ 0 := floatScale_eq ▸ by decide
  exact roundSig_ne_zero (by decide) (roundSig_ne_zero (by decide) (Nat.mul_ne_zero hnat hscale))

/-- The value stays below 1.0: the divisor exceeds 2^32 by more than the two roundings add. -/
theorem floatValue_lt (r : Word) : floatValue r < 2 ^ 85 := by
  have hr : r.toNat < 2 ^ 32 := r.isLt
  have hscale := floatScale_eq
  have hproduct : r.toNat * floatScale ≤ (2 ^ 32 - 1) * floatScale := Nat.mul_le_mul_right _ (by omega)
  have hdouble : 2 * roundSig 53 (r.toNat * floatScale) ≤ 2 * (r.toNat * floatScale) + 2 ^ 32 :=
    roundSig_le_of_lt (by decide) (by omega)
  have hsingle : 2 * floatValue r ≤ 2 * roundSig 53 (r.toNat * floatScale) + 2 ^ 61 :=
    roundSig_le_of_lt (by decide) (by omega)
  omega

/-- The encoding of a draw other than 0: a normal number below 1.0 (R170). -/
theorem floatBits_normal {r : Word} (hr : r ≠ 0#32) : ∃ f e : Nat, (floatBits r).toNat = e * 2 ^ 23 + f ∧
    f < 2 ^ 23 ∧ 1 ≤ e ∧ e ≤ 126 ∧ (2 ^ 23 + f) * 2 ^ e = floatValue r * 2 ^ 65 := by
  have hne := floatValue_ne_zero hr
  have hlog : (floatValue r).log2 < 85 := (Nat.log2_lt hne).2 (floatValue_lt r)
  have hexp : (floatValue r).log2 + 127 - 85 = (floatValue r).log2 + 42 := by omega
  refine ⟨fracField 23 (floatValue r), (floatValue r).log2 + 42, ?_, fracField_lt _ _, by omega, by omega,
    add_fracField_mul hne (roundSig_fitsSig (by decide) _) rfl⟩
  rw [floatBits_eq, bits32_toNat hne (by omega), hexp]

theorem floatBits_le (r : Word) : (floatBits r).toNat ≤ 0x3F7FFFFF := by
  by_cases hr : r = 0#32
  · rw [hr, floatBits_zero]
    decide
  · obtain ⟨f, e, hbits, hf, -, he, -⟩ := floatBits_normal hr
    omega

/-- Settles O54: `floatBits` by `floatBits_normal`, and the scale by its value. -/
theorem randFloatStaysBelowOne : Obligations.RandFloatStaysBelowOne := by
  unfold Obligations.RandFloatStaysBelowOne
  refine ⟨rfl, fun s => ⟨mtRandFloat s, rfl, finish_setX_writesXAndMersenne .., rfl, setX_zero_get ..⟩, ?_,
    floatBits_le, floatBits_zero, by decide +kernel, fun _ => floatBits_normal⟩
  rw [floatScale_eq]
  decide

/-! ### MT_RANDDOUBLE (R171) -/

/-- The 53-bit integer of the next two draws. -/
def drawnInt (g : Generator) : Nat := doubleInt (draw g).1 (draw (draw g).2).1

theorem drawnInt_eq (g : Generator) :
    drawnInt g = (draw g).1.toNat / 32 * 2 ^ 26 + (draw (draw g).2).1.toNat / 64 := by
  simp only [drawnInt, doubleInt, BitVec.toNat_ushiftRight, Nat.shiftRight_eq_div_pow]
  rfl

theorem drawnInt_lt (g : Generator) : drawnInt g < 2 ^ 53 := by
  have h1 : (draw g).1.toNat < 2 ^ 32 := BitVec.isLt _
  have h2 : (draw (draw g).2).1.toNat < 2 ^ 32 := BitVec.isLt _
  rw [drawnInt_eq]
  omega

theorem fitsSig_of_lt {bits n : Nat} (hbits : 0 < bits) (h : n < 2 ^ bits) : FitsSig bits n := by
  by_cases hn : n = 0
  · exact hn ▸ Nat.dvd_zero _
  · have hlog := (Nat.log2_lt hn).2 h
    rw [FitsSig, Nat.sub_eq_zero_of_le (by omega)]
    exact Nat.one_dvd n

/-- The encoding of a 53-bit integer over `2^53`, other than 0: a normal number below 1.0, and exact. -/
theorem bits64_normal {n : Nat} (hn : n ≠ 0) (hlt : n < 2 ^ 53) : ∃ f e : Nat, (bits64 n 53).toNat = e * 2 ^ 52 + f ∧
    f < 2 ^ 52 ∧ 1 ≤ e ∧ e ≤ 1022 ∧ (2 ^ 52 + f) * 2 ^ e = n * 2 ^ 1022 := by
  have hlog : n.log2 < 53 := (Nat.log2_lt hn).2 hlt
  have hexp : n.log2 + 1023 - 53 = n.log2 + 970 := by omega
  refine ⟨fracField 52 n, n.log2 + 970, ?_, fracField_lt _ _, by omega, by omega,
    add_fracField_mul hn (fitsSig_of_lt (by decide) hlt) rfl⟩
  rw [bits64_toNat hn (by omega), hexp]

theorem pair0_setPair0 (v : BitVec 64) (s : State) : pair0 (setPair0 v s) = v := by
  have hhigh : (setPair0 v s).x[1] = v.extractLsb' 32 32 := setX_get 1 1 _ _
  have hlow : (setPair0 v s).x[0] = v.extractLsb' 0 32 := (setX_get 1 0 _ _).trans (setX_get 0 0 _ _)
  rw [pair0, hhigh, hlow, BitVec.extractLsb'_append_extractLsb'_eq_extractLsb' (Nat.zero_add 32).symm]
  exact BitVec.extractLsb'_eq_self

/-- Settles O55: the integer of the two draws, encoded by `bits64_normal`. -/
theorem randDoubleIsExact : Obligations.RandDoubleIsExact := by
  unfold Obligations.RandDoubleIsExact
  refine ⟨rfl, fun s => ⟨mtRandDouble s, _, _, rfl, ?_, rfl, rfl, rfl, ?_⟩⟩
  · refine finish_writesXAndMersenne (x := (setPair0 _ s).x) _ fun r hr => ?_
    obtain ⟨h0, h1⟩ : r ≠ 0 ∧ r ≠ 1 := by simpa using hr
    rw [setPair0, setX_get, if_neg h1, setX_get, if_neg h0]
  · have hpair : pair0 (mtRandDouble s) = bits64 (drawnInt s.gen) 53 := pair0_setPair0 ..
    rw [hpair, ← drawnInt_eq]
    exact ⟨fun h => if_pos h, fun h => bits64_normal h.ne' (drawnInt_lt _)⟩

/-! ### MT_RANDRANGE (R172) -/

/-- The offset stays below `n`: what is missing from `v` to 1 is more than the rounding adds. -/
theorem rangeOffset_lt {V n : Nat} (hV : V < 2 ^ 53) (hn : 0 < n) : rangeOffset V n < n := by
  have hproduct : V * n + n ≤ 2 ^ 53 * n := by
    rw [← Nat.succ_mul]
    exact Nat.mul_le_mul_right n hV
  refine Nat.div_lt_of_lt_mul ?_
  have hround := roundSig_le 53 (V * n)
  by_cases h0 : V * n = 0
  · rw [h0, roundSig_zero]
    omega
  rcases pow_excessBits_le (prec := 53) (by decide) h0 with hexact | hlast
  · rw [hexact] at hround
    omega
  · omega

theorem mtRandRange_reversed {s : State} (h : s.x[1].toInt < s.x[0].toInt) : mtRandRange s = raise .badRange s :=
  if_pos h

/-- R172's `n`. -/
def rangeSize (s : State) : Nat := (s.x[1].toInt - s.x[0].toInt + 1).toNat

theorem mtRandRange_drawn {s : State} (h : s.x[0].toInt ≤ s.x[1].toInt) : mtRandRange s =
    finish (setX 0 (BitVec.ofInt 32 (s.x[0].toInt + (rangeOffset (drawnInt s.gen) (rangeSize s) : Int)))
      { s with gen := (draw (draw s.gen).2).2 }) :=
  if_neg h.not_gt

theorem toInt_ofInt_between {v : Int} {lo hi : Word} (hlo : lo.toInt ≤ v) (hhi : v ≤ hi.toInt) :
    (BitVec.ofInt 32 v).toInt = v :=
  BitVec.toInt_ofInt_eq_self (by decide) ((BitVec.le_toInt lo).trans hlo) (hhi.trans_lt (BitVec.toInt_lt))

/-- Settles O56: the two branches of `mtRandRange`; the offset is one of `0` to `hi - lo` by `rangeOffset_lt`. -/
theorem randRangeStaysInItsBounds : Obligations.RandRangeStaysInItsBounds := by
  unfold Obligations.RandRangeStaysInItsBounds
  refine ⟨rfl, fun s => ⟨fun h => ⟨_, rfl, ?_⟩, fun h => ⟨_, rangeSize s, drawnInt s.gen, rfl, ?_⟩⟩⟩
  · rw [mtRandRange_reversed h]
    exact raise_faultsCleanly .badRange s
  · have hsize : (rangeSize s : Int) = s.x[1].toInt - s.x[0].toInt + 1 := Int.toNat_of_nonneg (by omega)
    have hoffset : rangeOffset (drawnInt s.gen) (rangeSize s) < rangeSize s :=
      rangeOffset_lt (drawnInt_lt s.gen) (by omega)
    have hx : (mtRandRange s).x[0].toInt =
        s.x[0].toInt + (rangeOffset (drawnInt s.gen) (rangeSize s) : Int) := by
      rw [mtRandRange_drawn h, finish_x, setX_zero_get]
      exact toInt_ofInt_between (lo := s.x[0]) (hi := s.x[1]) (by omega) (by omega)
    refine ⟨?_, ?_, hsize, drawnInt_eq _, hx, by omega, by omega⟩
    · rw [mtRandRange_drawn h]
      exact finish_setX_writesXAndMersenne ..
    · rw [mtRandRange_drawn h]
      rfl

/-! ### Little-endian words in memory (R12, R54) -/

theorem toNat_append_byte {n : Nat} (hi : BitVec n) (b : Byte) : (hi ++ b).toNat = b.toNat + 256 * hi.toNat := by
  rw [BitVec.toNat_append, ← Nat.shiftLeft_add_eq_or_of_lt b.isLt, Nat.shiftLeft_eq, Nat.add_comm, Nat.mul_comm]

/-- The word of four bytes, the first least significant. -/
theorem ofNat_leValue_four (b0 b1 b2 b3 : Byte) :
    BitVec.ofNat 32 (leValue [b0, b1, b2, b3]) = (b3 ++ b2 ++ b1 ++ b0 : BitVec 32) := by
  have hvalue : leValue [b0, b1, b2, b3] = (b3 ++ b2 ++ b1 ++ b0 : BitVec 32).toNat := by
    simp only [toNat_append_byte, leValue, Nat.mul_zero, Nat.add_zero]
  rw [hvalue, BitVec.ofNat_toNat, BitVec.setWidth_eq]

theorem readBytes_succ (m : Memory) (a n : Nat) :
    readBytes m a (n + 1) = readByte m a :: readBytes m (a + 1) n := by
  have hnext (k : Nat) : a + k.succ = a + 1 + k := by omega
  rw [readBytes, List.range_succ_eq_map, List.map_cons, List.map_map]
  exact congrArg (readByte m a :: ·) (List.map_congr_left fun k _ => congrArg (readByte m) (hnext k))

/-- The words of a range of whole words are those at its addresses. -/
theorem leWords_readBytes (s : State) (a n : Nat) :
    leWords (readBytes s.mem a (4 * n)) = (List.range n).map (fun j => wordAt s (a + 4 * j)) := by
  induction n generalizing a with
  | zero => rfl
  | succ n ih =>
    have hnext (j : Nat) : a + 4 + 4 * j = a + 4 * (j + 1) := by omega
    simp only [Nat.mul_succ, readBytes_succ, leWords, ofNat_leValue_four, ih, hnext, List.range_succ_eq_map,
      List.map_cons, List.map_map]
    rfl

theorem leWords_readBytes_getD (s : State) (a n : Nat) {j : Nat} (hj : j < n) :
    (leWords (readBytes s.mem a (4 * n))).getD j 0#32 = wordAt s (a + 4 * j) := by
  simp [leWords_readBytes, List.getD_eq_getElem?_getD, hj]

/-- A word's four bytes make the word. -/
theorem leWords_leBytes_append (w : Word) (bs : List Byte) : leWords (leBytes 4 w.toNat ++ bs) = w :: leWords bs := by
  have hfit : w.toNat < 256 ^ 4 := w.isLt
  have hword : BitVec.ofNat 32 (leValue (leBytes 4 w.toNat)) = w := by
    rw [leValue_leBytes, Nat.mod_eq_of_lt hfit, BitVec.ofNat_toNat, BitVec.setWidth_eq]
  exact congrArg (· :: leWords bs) hword

theorem leWords_flatten (ws : List Word) (bs : List Byte) :
    leWords ((ws.map (fun w => leBytes 4 w.toNat)).flatten ++ bs) = ws ++ leWords bs := by
  induction ws with
  | nil => rfl
  | cons w ws ih => rw [List.map_cons, List.flatten_cons, List.append_assoc, leWords_leBytes_append, ih,
      List.cons_append]

/-- The blob's words (R173). -/
theorem leWords_blobOf (g : Generator) : leWords (blobOf g) = g.mt.toList ++ [g.mti] := by
  have hcursor : leWords (leBytes 4 g.mti.toNat) = [g.mti] :=
    (congrArg leWords (List.append_nil _).symm).trans (leWords_leBytes_append g.mti [])
  rw [blobOf, leWords_flatten, hcursor]

theorem length_flatten_leBytes (ws : List Word) :
    (ws.map (fun w => leBytes 4 w.toNat)).flatten.length = 4 * ws.length := by
  induction ws with
  | nil => rfl
  | cons w ws ih => rw [List.map_cons, List.flatten_cons, List.length_append, length_leBytes, ih, List.length_cons,
      Nat.mul_succ, Nat.add_comm]

theorem length_blobOf (g : Generator) : (blobOf g).length = blobBytes := by
  rw [blobOf, List.length_append, length_flatten_leBytes, length_leBytes, Vector.length_toList]
  rfl

/-! ### MT_SEED_ARRAY (R166) -/

section
variable {s : State}

theorem mtSeedArray_empty (h : s.x[1].toNat = 0) : mtSeedArray s = raise .badSeedLen s :=
  if_pos (by omega)

variable (hlen : 1 ≤ s.x[1].toNat)
include hlen

theorem mtSeedArray_badRange (h : ¬ InSpace s.x[0].toNat (4 * s.x[1].toNat)) :
    mtSeedArray s = raise .badBuffer s := by
  have hok := Bool.eq_false_iff.2 (mt (Range.ok_iff _ _).1 h)
  simp [mtSeedArray, hlen.not_gt, hok]

theorem mtSeedArray_refused (h : InSpace s.x[0].toNat (4 * s.x[1].toNat))
    (hrefuses : Refuses s s.x[0].toNat (4 * s.x[1].toNat) false) :
    mtSeedArray s = midFault .busError .mtSeedArray s := by
  have hok := (Range.ok_iff _ _).2 h
  simp [mtSeedArray, hlen.not_gt, hok, loadBytes_of_refuses hrefuses]

theorem mtSeedArray_seeded (h : Readable s s.x[0].toNat (4 * s.x[1].toNat)) : mtSeedArray s =
    finish { s with gen := { mt := mtInitArray ((List.range s.x[1].toNat).map
      (fun j => wordAt s (s.x[0].toNat + 4 * j))), mti := 624#32 } } := by
  have hok := (Range.ok_iff _ _).2 h.1
  simp [mtSeedArray, hlen.not_gt, hok, loadBytes_of_readable h, leWords_readBytes]

end

theorem mtInitArray_first (key : List Word) : mtAt (mtInitArray key) 0 = 0x80000000#32 := by
  rw [mtInitArray_eq_mixChain, mtAt_setIfInBounds_same _ _ (by decide)]

/-- Settles O49: each clause is one branch of `mtSeedArray`. -/
theorem seedArrayMixesTheKeyWords : Obligations.SeedArrayMixesTheKeyWords := by
  unfold Obligations.SeedArrayMixesTheKeyWords
  refine ⟨rfl, ?_⟩
  rintro s _ _ rfl rfl
  refine ⟨fun hlen => ⟨_, rfl, ?_⟩, fun hlen hbad => ⟨_, rfl, ?_⟩, fun hlen hspace hrefuses => ⟨_, rfl, ?_⟩,
    fun hlen hread => ⟨_, rfl, ?_⟩⟩
  · rw [mtSeedArray_empty hlen]
    exact raise_faultsCleanly .badSeedLen s
  · rw [mtSeedArray_badRange hlen hbad]
    exact raise_faultsCleanly .badBuffer s
  · rw [mtSeedArray_refused hlen hspace hrefuses]
    exact midFault_mersenne_spec rfl .busError rfl
  · rw [mtSeedArray_seeded hlen hread]
    exact ⟨finish_gen_writesXAndMersenne _ s, rfl, rfl, rfl, mtInitArray_first _⟩

/-! ### MT_SAVE (R174) -/

section
variable {s : State}

theorem mtSave_short (h : s.x[1].toNat < 2500) : mtSave s = finish (setX 0 2500#32 s) := if_pos h

variable (hlen : 2500 ≤ s.x[1].toNat)
include hlen

theorem mtSave_badRange (h : ¬ InSpace s.x[0].toNat 2500) : mtSave s = raise .badBuffer s := by
  have hok := Bool.eq_false_iff.2 (mt (Range.ok_iff _ _).1 h)
  simp [mtSave, blobBytes, hlen.not_gt, hok]

theorem mtSave_refused (h : InSpace s.x[0].toNat 2500) (hrefuses : Refuses s s.x[0].toNat 2500 true) :
    mtSave s = midFault .busError .mtSave s := by
  have hok := (Range.ok_iff _ _).2 h
  have hstore : storeBytes s s.x[0].toNat (blobOf s.gen) = none :=
    storeBytes_of_refuses ((length_blobOf s.gen).symm ▸ hrefuses)
  simp [mtSave, blobBytes, hlen.not_gt, hok, hstore]

theorem mtSave_saved (h : Writable s s.x[0].toNat 2500) :
    mtSave s = storeAndReturn (blobOf s.gen) 0#32 s := by
  have hlong : ¬ s.x[1].toNat < blobBytes := hlen.not_gt
  have hok : ({ base := s.x[0].toNat, len := blobBytes : Range }).ok = true := (Range.ok_iff _ _).2 h.1
  have hblob : Writable s s.x[0].toNat blobBytes := h
  have hwrite : Writable s s.x[0].toNat (blobOf s.gen).length := (length_blobOf s.gen).symm ▸ hblob
  have hstore := storeBytes_of_writable hwrite
  simp only [mtSave, if_neg hlong, hok, hstore, Bool.not_true, Bool.false_eq_true, if_false]
  rfl

end

/-- The words in memory after the blob is written. -/
theorem wordAt_saved {s : State} (h : InSpace s.x[0].toNat 2500) (hm : Memory.wf s.mem = true) (v : Word) {i : Nat}
    (hi : i < 625) : wordAt (storeAndReturn (blobOf s.gen) v s) (s.x[0].toNat + 4 * i) =
      (s.gen.mt.toList ++ [s.gen.mti]).getD i 0#32 := by
  have hlength : (blobOf s.gen).length = 4 * 625 := length_blobOf s.gen
  have hread := readBytes_writeBytes_same (bs := blobOf s.gen) (by rwa [hlength]) hm
  rw [← leWords_readBytes_getD _ _ 625 hi, storeAndReturn_mem, ← hlength, hread, leWords_blobOf]

/-- Settles O57: each clause is one branch of `mtSave`, and the blob in memory is `wordAt_saved`. -/
theorem saveWritesTheBlob : Obligations.SaveWritesTheBlob := by
  unfold Obligations.SaveWritesTheBlob
  refine ⟨rfl, ?_⟩
  rintro s _ _ rfl rfl
  refine ⟨fun hlen => ⟨_, rfl, ?_⟩, fun hlen hbad => ⟨_, rfl, ?_⟩, fun hlen hspace hrefuses => ⟨_, rfl, ?_⟩,
    fun hlen hwrite hm => ⟨_, rfl, ?_⟩⟩
  · rw [mtSave_short hlen]
    exact ⟨finish_setX_writesOnlyX 0 _ s, setX_zero_get _ s⟩
  · rw [mtSave_badRange hlen hbad]
    exact raise_faultsCleanly .badBuffer s
  · rw [mtSave_refused hlen hspace hrefuses]
    obtain ⟨henters, hx, hmem, hblowfish, -⟩ := midFault_spec .busError .mtSave s
    have hrange : writeRanges .mtSave s = [{ base := s.x[0].toNat, len := 2500 }] := if_pos hlen
    rw [hrange] at hmem
    exact ⟨⟨henters, hx, fun a ha => hmem a (List.forall_mem_singleton.2 ha)⟩, hblowfish (by decide)⟩
  · rw [mtSave_saved hlen hwrite]
    have hwrites := storeAndReturn_writesXAndRange (blobOf s.gen) 0#32 s
    rw [length_blobOf] at hwrites
    refine ⟨hwrites, storeAndReturn_x0 .., fun i hi => ?_, ?_⟩
    · rw [wordAt_saved hwrite.1 hm _ (by omega), mtAt_eq_getElem _ hi]
      simp [List.getD_eq_getElem?_getD, List.getElem?_append_left, hi]
    · rw [show 2496 = 4 * 624 from rfl, wordAt_saved hwrite.1 hm _ (by decide)]
      simp [List.getD_eq_getElem?_getD]

/-! ### MT_RESTORE (R175) -/

/-- The engine that the words at an address give. -/
def generatorAt (s : State) (a : Nat) : Generator :=
  { mt := Vector.ofFn (fun i : Fin 624 => wordAt s (a + 4 * i.val)), mti := wordAt s (a + 2496) }

theorem ofBlobWords_readBytes (s : State) (a : Nat) :
    ofBlobWords (leWords (readBytes s.mem a blobBytes)) = generatorAt s a := by
  have hword {j : Nat} (hj : j < 625) :
      (leWords (readBytes s.mem a blobBytes)).getD j 0#32 = wordAt s (a + 4 * j) := leWords_readBytes_getD s a 625 hj
  have hvector (i : Fin 624) := hword (i.isLt.trans (by decide))
  simp only [ofBlobWords, generatorAt, hvector, hword (j := 624) (by decide), Nat.reduceMul]

theorem mtAt_generatorAt (s : State) (a : Nat) {i : Nat} (hi : i < 624) :
    mtAt (generatorAt s a).mt i = wordAt s (a + 4 * i) := by
  rw [mtAt_eq_getElem _ hi, generatorAt, Vector.getElem_ofFn]

section
variable {s : State}

theorem mtRestore_badRange (h : ¬ InSpace s.x[0].toNat 2500) : mtRestore s = raise .badBuffer s := by
  have hok := Bool.eq_false_iff.2 (mt (Range.ok_iff _ _).1 h)
  simp [mtRestore, blobBytes, hok]

theorem mtRestore_refused (h : InSpace s.x[0].toNat 2500) (hrefuses : Refuses s s.x[0].toNat 2500 false) :
    mtRestore s = midFault .busError .mtRestore s := by
  have hok := (Range.ok_iff _ _).2 h
  simp [mtRestore, blobBytes, hok, loadBytes_of_refuses hrefuses]

theorem mtRestore_read (h : Readable s s.x[0].toNat 2500) : mtRestore s =
    if 625 < (wordAt s (s.x[0].toNat + 2496)).toNat then midFault .badStateBlob .mtRestore s
    else finish { s with gen := generatorAt s s.x[0].toNat } := by
  have hok : ({ base := s.x[0].toNat, len := blobBytes : Range }).ok = true := (Range.ok_iff _ _).2 h.1
  have hload : loadBytes s s.x[0].toNat blobBytes = _ := loadBytes_of_readable h
  simp only [mtRestore, hok, hload, ofBlobWords_readBytes, Bool.not_true, Bool.false_eq_true, if_false]
  rfl

end

/-- Settles O58: each clause is one branch of `mtRestore`. -/
theorem restoreTakesTheBlob : Obligations.RestoreTakesTheBlob := by
  unfold Obligations.RestoreTakesTheBlob
  refine ⟨rfl, ?_⟩
  rintro s _ rfl
  refine ⟨fun hbad => ⟨_, rfl, ?_⟩, fun hspace hrefuses => ⟨_, rfl, ?_⟩, fun hread hcursor => ⟨_, rfl, ?_⟩,
    fun hread hcursor => ⟨_, rfl, ?_⟩⟩
  · rw [mtRestore_badRange hbad]
    exact raise_faultsCleanly .badBuffer s
  · rw [mtRestore_refused hspace hrefuses]
    exact midFault_mersenne_spec rfl .busError rfl
  · rw [mtRestore_read hread, if_pos hcursor]
    exact midFault_mersenne_spec rfl .badStateBlob rfl
  · rw [mtRestore_read hread, if_neg hcursor.not_gt]
    exact ⟨finish_gen_writesXAndMersenne _ s, rfl, fun i hi => mtAt_generatorAt s _ hi⟩

end Sys2Proof.Machine

/-! ## Faults last until reset (R198)

An idle machine's next step is the outside world's next move. On an idle machine that has faulted, fault entry changes
nothing and a write of CMD is ignored, so a move other than reset leaves all but X, memory and the data it read. -/

namespace Sys2Proof.Machine

/-! ### Accesses at an offset of the window (R22) -/

section
variable {off : Nat} (h : off < 64)
include h

theorem windowOffset_coreBase_add (c : Config) : windowOffset c (c.coreBase + BitVec.ofNat 32 off) = off := by
  rw [windowOffset, BitVec.add_comm, BitVec.add_sub_cancel, BitVec.toNat_ofNat, Nat.mod_eq_of_lt (by omega)]

theorem inWindow_coreBase_add (c : Config) (bytes : Nat) :
    inWindow c (c.coreBase + BitVec.ofNat 32 off) bytes = true :=
  decide_eq_true (.inl ((windowOffset_coreBase_add h c).trans_lt h))

theorem hostDo_busWrite_at (s : State) (bytes : Nat) (v : Word) :
    hostDo (.busWrite (s.cfg.coreBase + BitVec.ofNat 32 off) bytes v) s = windowWrite off bytes v s := by
  rw [hostDo, if_pos (inWindow_coreBase_add h s.cfg bytes), windowOffset_coreBase_add h]

theorem hostDo_busRead_at (s : State) (bytes : Nat) :
    hostDo (.busRead (s.cfg.coreBase + BitVec.ofNat 32 off) bytes) s = windowRead off bytes s := by
  rw [hostDo, if_pos (inWindow_coreBase_add h s.cfg bytes), windowOffset_coreBase_add h]

end

/-- CMD stands at the window's base itself. -/
theorem hostDo_busRead_cmd (s : State) : hostDo (.busRead s.cfg.coreBase 4) s = { s with readData := s.cmd } := by
  have hread := hostDo_busRead_at (off := 0) (by decide) s 4
  rw [BitVec.add_zero] at hread
  exact hread

theorem hostDo_busRead_status (s : State) :
    hostDo (.busRead (s.cfg.coreBase + 4#32) 4) s = { s with readData := s.status } :=
  hostDo_busRead_at (off := 4) (by decide) s 4

theorem windowReg_x : ∀ r : Fin 8, windowReg (0x10 + 4 * r.val) = .x r := by decide

theorem goodAccess_x (r : Fin 8) : goodAccess (0x10 + 4 * r.val) 4 = true := decide_eq_true ⟨rfl, by omega⟩

/-! ### Moves while no command is in progress -/

section
variable {s : State} (hrun : s.running = none)
include hrun

theorem busy_of_idle : s.busy = false := by rw [State.busy, hrun, Option.isSome_none]

theorem step_of_idle {e : HostEvent} {rest : List HostEvent} (hhost : s.host = e :: rest) :
    step s = .next (hostDo e { s with host := rest }) := by
  have hmove : hostMove s = hostDo e { s with host := rest } := by
    cases e with
    | wait => simp [hostMove, hhost, busy_of_idle hrun]
    | _ => simp [hostMove, hhost]
  simp only [step, advance, hrun, hmove]

theorem abort_of_idle : abort s = s := by simp only [abort, hrun]

theorem hostDo_regWrite_of_idle (r : Fin 8) (v : Word) :
    hostDo (regWrite s.cfg.coreBase r.val v) s = setX r v s := by
  rw [regWrite, hostDo_busWrite_at (by omega)]
  simp [windowWrite, goodAccess_x, windowReg_x, busy_of_idle hrun]

theorem hostDo_busRead_x_of_idle (r : Fin 8) :
    hostDo (.busRead (s.cfg.coreBase + BitVec.ofNat 32 (0x10 + 4 * r.val)) 4) s = { s with readData := s.x[r] } := by
  rw [hostDo_busRead_at (by omega)]
  simp [windowRead, goodAccess_x, windowReg_x, busy_of_idle hrun]

/-- With no command in progress there is no race (R64). -/
theorem agentRead_of_idle (a : Word) :
    agentRead a s = { s with readData := (readByte s.mem a.toNat).setWidth 32 } := by
  simp [agentRead, inWriteRange, busy_of_idle hrun]

theorem agentWrite_of_idle (a : Word) (b : Byte) : agentWrite a b s = { s with mem := writeByte s.mem a.toNat b } := by
  simp [agentWrite, inReadRange, inWriteRange, busy_of_idle hrun]

end

/-! ### Moves after a fault -/

/-- X, memory, the data last read and the next ticket apart, `t` is `s`. -/
def ChangesOnlyData (s t : State) : Prop :=
  ∃ (x : Vector Word 8) (m : Memory) (d : Word) (n : Nat), t = { s with x := x, mem := m, readData := d, ticket := n }

theorem ChangesOnlyData.keeps {s t : State} (h : ChangesOnlyData s t) : t.err = s.err ∧ t.errcode = s.errcode ∧
    t.running = s.running ∧ t.cmd = s.cmd ∧ KeepsBlowfish s t ∧ KeepsMersenne s t := by
  obtain ⟨x, m, d, n, rfl⟩ := h
  exact ⟨rfl, rfl, rfl, rfl, ⟨rfl, rfl⟩, rfl⟩

section
variable {s : State} (herr : s.err = true) (hrun : s.running = none)
include herr hrun

/-- Fault entry keeps the first code (R195). -/
theorem raise_of_faulted (c : FaultCode) : raise c s = s := by
  rw [raise, if_pos herr, ← herr, ← hrun]

theorem hostFault_of_faulted (c : FaultCode) : hostFault c s = s := by
  rw [hostFault, abort_of_idle hrun, raise_of_faulted herr hrun]

/-- A write of CMD is ignored (R23), and a fault of the access itself changes nothing. -/
theorem windowWrite_of_faulted (off bytes : Nat) (v : Word) :
    windowWrite off bytes v s = s ∨ ∃ i, windowWrite off bytes v s = setX i v s := by
  have hbusy := busy_of_idle hrun
  have hfault := hostFault_of_faulted herr hrun .hostAccess
  by_cases hgood : goodAccess off bytes = true
  · cases hreg : windowReg off with
    | x i => exact .inr ⟨i, by simp [windowWrite, hgood, hreg, hbusy]⟩
    | _ => exact .inl (by simp [windowWrite, hgood, hreg, hbusy, herr, hfault])
  · exact .inl (by simp [windowWrite, hgood, hfault])

theorem windowRead_of_faulted (off bytes : Nat) :
    ∃ d n, windowRead off bytes s = { s with readData := d, ticket := n } := by
  by_cases hgood : goodAccess off bytes = true
  · cases hreg : windowReg off with
    | cmd => exact ⟨s.cmd, s.ticket, by simp [windowRead, hgood, hreg]⟩
    | status => exact ⟨s.status, s.ticket, by simp [windowRead, hgood, hreg]⟩
    | reserved => exact ⟨0#32, s.ticket, by simp [windowRead, hgood, hreg]⟩
    | x i => exact ⟨s.x[i], s.ticket, by simp [windowRead, hgood, hreg, busy_of_idle hrun]⟩
  · have hbad : windowRead off bytes s = readAny s := by simp [windowRead, hgood, hostFault_of_faulted herr hrun]
    exact ⟨_, _, hbad⟩

/-- R198: what a move other than reset can change. -/
theorem hostDo_of_faulted {e : HostEvent} (he : e ≠ .reset) : ChangesOnlyData s (hostDo e s) := by
  cases e with
  | busRead addr bytes =>
    rw [hostDo]
    split
    · obtain ⟨d, n, h⟩ := windowRead_of_faulted herr hrun (windowOffset s.cfg addr) bytes
      exact ⟨_, _, d, n, h⟩
    · exact ⟨_, _, _, _, rfl⟩
  | busWrite addr bytes v =>
    rw [hostDo]
    split
    · rcases windowWrite_of_faulted herr hrun (windowOffset s.cfg addr) bytes v with h | ⟨i, h⟩
      · exact ⟨_, _, _, _, h⟩
      · exact ⟨s.x.set i v, _, _, _, h⟩
    · exact ⟨_, _, _, _, rfl⟩
  | memRead a => exact ⟨_, _, _, _, agentRead_of_idle hrun a⟩
  | memWrite a b => exact ⟨_, _, _, _, agentWrite_of_idle hrun a b⟩
  | wait => exact ⟨_, _, _, _, rfl⟩
  | reset => exact absurd rfl he

end

/-- Settles O17: a move changes only X, memory and the data read by `hostDo_of_faulted`, and the four accesses are
those of an idle machine. -/
theorem faultStaysUntilReset : Obligations.FaultStaysUntilReset := by
  unfold Obligations.FaultStaysUntilReset
  intro s t e rest herr hrun hhost he hstep
  obtain rfl := Host.Outcome.next.inj ((step_of_idle hrun hhost).symm.trans hstep)
  obtain ⟨herr', hcode, hrun', hcmd, hblowfish, hmersenne⟩ :=
    (hostDo_of_faulted (s := { s with host := rest }) herr hrun he).keeps
  refine ⟨herr'.trans herr, hcode, hrun'.trans hrun, hcmd, hblowfish, hmersenne, ?_, ?_, ?_, ?_⟩
  · rintro r v rfl
    exact congrArg State.x (hostDo_regWrite_of_idle (s := { s with host := rest }) hrun r v)
  · rintro r rfl
    exact congrArg State.readData (hostDo_busRead_x_of_idle (s := { s with host := rest }) hrun r)
  · rintro rfl
    exact congrArg State.readData (hostDo_busRead_cmd { s with host := rest })
  · rintro rfl
    exact congrArg State.readData (hostDo_busRead_status { s with host := rest })

end Sys2Proof.Machine

/-! ## Decode and encode agree (R70 to R74)

The command that decoding answers fixes the fields of the word, and the three fields fix the word. -/

namespace Sys2Proof

/-- The three fields hold every bit of a word (R71). -/
theorem fieldsOf_injective {v w : Word} (h : fieldsOf v = fieldsOf w) : v = w := by
  have hop := congrArg (fun f => f.op.toNat) h
  have hsz := congrArg (fun f => f.sz.toNat) h
  have hrsv := congrArg (fun f => f.rsv.toNat) h
  simp only [fieldsOf_op_toNat, fieldsOf_sz_toNat, fieldsOf_rsv_toNat] at hop hsz hrsv
  apply BitVec.eq_of_toNat_eq
  omega

/-- A byte-order command has its opcode and its size from one row of the map. -/
theorem sizedOp_fields {op : BitVec 8} {sz : BitVec 4} {i : Instr} (h : sizedOp op sz = some i) :
    fieldsOf (encode i) = { op := op, sz := sz, rsv := 0#20 } := by
  unfold sizedOp at h
  split at h <;> cases h <;>
    (rw [CommandFields.mk.injEq]
     exact ⟨BitVec.eq_of_toNat_eq (Eq.symm ‹_›), BitVec.eq_of_toNat_eq (Eq.symm ‹_›), rfl⟩)

/-- A command of another engine has its opcode from one row of the map, and size 0. -/
theorem plainOp_fields {op : BitVec 8} {i : Instr} (h : plainOp op = some i) :
    fieldsOf (encode i) = { op := op, sz := 0#4, rsv := 0#20 } := by
  unfold plainOp at h
  split at h <;> cases h <;>
    (rw [CommandFields.mk.injEq]
     exact ⟨BitVec.eq_of_toNat_eq (Eq.symm ‹_›), rfl, rfl⟩)

theorem eq_encode_of_decode {w : Word} {i : Instr} (h : decode w = .ok i) : w = encode i := by
  obtain ⟨hrsv, hcommand⟩ := (decode_eq_ok_iff w i).1 h
  apply fieldsOf_injective
  rcases hcommand with ⟨-, hi⟩ | ⟨-, hi, hsz⟩
  · rw [sizedOp_fields hi, ← hrsv]
  · rw [plainOp_fields hi, ← hrsv, ← hsz]

theorem decode_encode (i : Instr) : decode (encode i) = .ok i := by
  cases i <;> rfl

/-- Settles O2: a word that decodes has the fields of the command's own word. -/
theorem decodeInvertsEncode : Obligations.DecodeInvertsEncode := by
  unfold Obligations.DecodeInvertsEncode
  intro w i
  exact ⟨eq_encode_of_decode, fun h => h ▸ decode_encode i⟩

/-- Settles O1: each is the word that `encode` gives. -/
theorem writtenWordsDecodeToTheirCommands : Obligations.WrittenWordsDecodeToTheirCommands := by
  unfold Obligations.WrittenWordsDecodeToTheirCommands
  exact ⟨decode_encode .bfInit, decode_encode .bfDecryptString, decode_encode .mtRandRange, decode_encode .b64Decode,
    decode_encode .bswap2, decode_encode .fixbo4, decode_encode .fixboArray8⟩

/-! ### Every word with well-formed fields decodes (R76) -/

theorem sizedOp_of_size {op : BitVec 8} {sz : BitVec 4} (hop : op.toNat ∈ [0x30, 0x31, 0x32])
    (hsz : sz.toNat ∈ [1, 2, 4, 8]) : ∃ i, sizedOp op sz = some i := by
  unfold sizedOp
  generalize op.toNat = o at hop ⊢
  generalize sz.toNat = n at hsz ⊢
  fin_cases hop <;> fin_cases hsz <;> exact ⟨_, rfl⟩

theorem plainOp_of_assigned {op : BitVec 8} (h : (0x01 ≤ op.toNat ∧ op.toNat ≤ 0x05) ∨
    (0x10 ≤ op.toNat ∧ op.toNat ≤ 0x17) ∨ (0x20 ≤ op.toNat ∧ op.toNat ≤ 0x23)) : ∃ i, plainOp op = some i := by
  unfold plainOp
  rcases h with ⟨hmin, hmax⟩ | ⟨hmin, hmax⟩ | ⟨hmin, hmax⟩ <;> interval_cases op.toNat <;> exact ⟨_, rfl⟩

/-- R72 rejects no word whose fields are well formed. -/
theorem exists_decode_iff (w : Word) : (∃ i, decode w = .ok i) ↔ (fieldsOf w).wellFormed = true := by
  refine ⟨fun ⟨i, hi⟩ => wellFormed_of_decode hi, fun h => ?_⟩
  obtain ⟨hrsvOk, hopOk, hszOk⟩ := (CommandFields.wellFormed_iff _).1 h
  have hrsv : (fieldsOf w).rsv = 0#20 := BitVec.eq_of_toNat_eq ((CommandFields.rsvOk_iff _).1 hrsvOk)
  simp only [decode_eq_ok_iff, hrsv, true_and]
  cases hbo : byteOrderOp (fieldsOf w).op with
  | true =>
    have hop := (byteOrderOp_iff _).1 hbo
    obtain ⟨i, hi⟩ := sizedOp_of_size hop ((CommandFields.szOk_iff_of_byteOrder hop).1 hszOk)
    exact ⟨i, .inl ⟨rfl, hi⟩⟩
  | false =>
    have hop := mt (byteOrderOp_iff _).2 (Bool.eq_false_iff.1 hbo)
    have hsz : (fieldsOf w).sz = 0#4 := BitVec.eq_of_toNat_eq ((CommandFields.szOk_iff_of_plain hop).1 hszOk)
    have hassigned := (assignedOp_iff _).1 hopOk
    obtain ⟨i, hi⟩ := plainOp_of_assigned (by simpa only [hop, or_false] using hassigned)
    exact ⟨i, .inr ⟨rfl, hi, hsz⟩⟩

/-- Settles O3: the three checks on the fields, as numbers; an opcode decides which of the two size checks counts. -/
theorem legalWordsAreTheOpcodeMap : Obligations.LegalWordsAreTheOpcodeMap := by
  unfold Obligations.LegalWordsAreTheOpcodeMap
  intro w
  rw [exists_decode_iff, CommandFields.wellFormed_iff, CommandFields.rsvOk_iff, fieldsOf_rsv_toNat]
  refine and_congr_right fun _ => ?_
  rw [CommandFields.opOk, assignedOp_iff, fieldsOf_op_toNat]
  by_cases hop : (fieldsOf w).op.toNat ∈ [0x30, 0x31, 0x32]
  · rw [CommandFields.szOk_iff_of_byteOrder hop, fieldsOf_sz_toNat]
    rw [fieldsOf_op_toNat] at hop
    have hplain := hop
    simp only [List.mem_cons, List.not_mem_nil, or_false] at hplain
    simp only [hop, true_and, or_true]
    refine ⟨.inl, fun h => h.resolve_right fun ⟨_, h⟩ => ?_⟩
    omega
  · rw [CommandFields.szOk_iff_of_plain hop, fieldsOf_sz_toNat]
    rw [fieldsOf_op_toNat] at hop
    simp only [hop, false_and, or_false, false_or]
    exact and_comm

end Sys2Proof

/-! ## The Blowfish string commands, one equation per branch (R130, R136, R137) -/

namespace Sys2Proof.Machine

theorem length_unpackHalf (o : WordOrder) (w : Word) : (unpackHalf o w).length = 4 := by cases o <;> rfl

/-- Of whole blocks only the empty list holds no block. -/
theorem eq_nil_of_no_block {bs : List Byte} (h : bs.length % 8 = 0) (hshort : ∀ b0 b1 b2 b3 b4 b5 b6 b7 rest,
    bs = b0 :: b1 :: b2 :: b3 :: b4 :: b5 :: b6 :: b7 :: rest → False) : bs = [] := by
  match bs, h, hshort with
  | [], _, _ => rfl
  | _ :: _ :: _ :: _ :: _ :: _ :: _ :: _ :: _, _, hshort => exact (hshort _ _ _ _ _ _ _ _ _ rfl).elim

/-- Whole blocks stay as many bytes (R136). -/
theorem length_onBlocks (o : WordOrder) (f : Word → Word → Word × Word) {bs : List Byte} (h : bs.length % 8 = 0) :
    (onBlocks o f bs).length = bs.length := by
  induction bs using onBlocks.induct o f with
  | case1 b0 b1 b2 b3 b4 b5 b6 b7 rest ih =>
    simp only [List.length_cons] at h
    simp only [onBlocks, List.length_append, length_unpackHalf, ih (by omega), List.length_cons]
    omega
  | case2 bs hshort =>
    rw [eq_nil_of_no_block h hshort]
    rfl

/-- The source range of a string command, block by block through the cipher. -/
def cipheredBytes (f : Schedule → Word → Word → Word × Word) (s : State) : List Byte :=
  onBlocks s.cfg.wordOrder (f s.sched) (readBytes s.mem s.x[0].toNat s.x[1].toNat)

theorem length_cipheredBytes (f : Schedule → Word → Word → Word × Word) {s : State} (h : s.x[1].toNat % 8 = 0) :
    (cipheredBytes f s).length = s.x[1].toNat := by
  rw [cipheredBytes, length_onBlocks _ _ (by rwa [length_readBytes]), length_readBytes]

/-- The checks on the ranges, as the model makes them. -/
theorem stringRangesOk_iff {s : State} (hlen : s.x[1].toNat % 8 = 0) : StringRangesOk s ↔
    ({ base := s.x[0].toNat, len := s.x[1].toNat : Range }).ok = true ∧
      ({ base := s.x[2].toNat, len := s.x[1].toNat : Range }).ok = true ∧
      ¬(s.x[2].toNat ≠ s.x[0].toNat ∧ ({ base := s.x[0].toNat, len := s.x[1].toNat : Range }).overlaps
        { base := s.x[2].toNat, len := s.x[1].toNat } = true) := by
  rw [Range.ok_iff, Range.ok_iff, not_and, Bool.not_eq_true, Range.not_overlaps_iff, ← or_iff_not_imp_left,
    BitVec.toNat_inj]
  simp only [StringRangesOk, InSpace, hlen, true_and]

/-- Past its checks a string command reads its source, and writes the ciphered blocks and X3. -/
def cipherString (i : Instr) (f : Schedule → Word → Word → Word × Word) (s : State) : State :=
  match loadBytes s s.x[0].toNat s.x[1].toNat with
  | none    => midFault .busError i s
  | some bs =>
    match storeBytes s s.x[2].toNat (onBlocks s.cfg.wordOrder (f s.sched) bs) with
    | none    => midFault .busError i s
    | some s' => finish (setX 3 s.x[1] s')

section
variable {i : Instr} {f : Schedule → Word → Word → Word × Word} {s : State}

theorem bfString_notKeyed (h : s.keyed = false) : bfString i f s = raise .notKeyed s := by
  simp [bfString, h]

variable (hkeyed : s.keyed = true)
include hkeyed

theorem bfString_badLength (h : s.x[1].toNat % 8 ≠ 0) : bfString i f s = raise .badBlockLen s := by
  simp [bfString, hkeyed, h]

theorem bfString_badRanges (hlen : s.x[1].toNat % 8 = 0) (h : ¬ StringRangesOk s) :
    bfString i f s = raise .badBuffer s := by
  rw [stringRangesOk_iff hlen] at h
  simp only [bfString, hkeyed, Bool.not_true, Bool.false_eq_true, if_false, hlen, ne_eq, not_true_eq_false]
  split_ifs with hsrc hdst hoverlap
  · rfl
  · rfl
  · rfl
  · simp_all

theorem bfString_of_rangesOk (h : StringRangesOk s) : bfString i f s = cipherString i f s := by
  have hlen := h.1
  obtain ⟨hsrc, hdst, hapart⟩ := (stringRangesOk_iff hlen).1 h
  simp only [bfString, hkeyed, Bool.not_true, Bool.false_eq_true, if_false, hlen, ne_eq, not_true_eq_false, hsrc, hdst,
    if_neg hapart]
  rfl

theorem bfString_refused (hranges : StringRangesOk s) (h : Refuses s s.x[0].toNat s.x[1].toNat false ∨
    Refuses s s.x[2].toNat s.x[1].toNat true) : bfString i f s = midFault .busError i s := by
  rw [bfString_of_rangesOk hkeyed hranges, cipherString]
  cases hload : loadBytes s s.x[0].toNat s.x[1].toNat with
  | none => rfl
  | some bs =>
    obtain ⟨-, rfl⟩ := (loadBytes_eq_some ..).1 hload
    have hdst := h.resolve_left fun hsrc => nomatch (loadBytes_of_refuses hsrc).symm.trans hload
    rw [← length_cipheredBytes f hranges.1] at hdst
    have hstore := storeBytes_of_refuses hdst
    rw [cipheredBytes] at hstore
    simp only [hstore]

end

theorem bfString_ciphered {i : Instr} {f : Schedule → Word → Word → Word × Word} {s : State} (h : StringReady s) :
    bfString i f s =
      finish (setX 3 s.x[1] { s with mem := writeBytes s.mem s.x[2].toNat (cipheredBytes f s) }) := by
  obtain ⟨hkeyed, hranges, hread, hwrite⟩ := h
  rw [← length_cipheredBytes f hranges.1] at hwrite
  have hstore := storeBytes_of_writable hwrite
  rw [cipheredBytes] at hstore ⊢
  simp only [bfString_of_rangesOk hkeyed hranges, cipherString, loadBytes_of_readable hread, hstore]

end Sys2Proof.Machine

/-! ## Blowfish keys and strings (R131, R135 to R137)

A repeated key has the key's own cyclic words. A string command's destination holds the source's blocks through the
cipher, and a range of blocks is read half by half. -/

namespace Sys2Proof.Machine

/-! ### A repeated key (R131) -/

theorem length_flatten_replicate (key : List Byte) (n : Nat) :
    (List.replicate n key).flatten.length = n * key.length := by
  rw [List.length_flatten, List.map_replicate, List.sum_replicate, smul_eq_mul]

/-- A byte of a repeated key is the key's own, taken cyclically. -/
theorem getD_flatten_replicate (key : List Byte) {n j : Nat} (hj : j < n * key.length) :
    (List.replicate n key).flatten.getD j 0#8 = key.getD (j % key.length) 0#8 := by
  induction n generalizing j with
  | zero => omega
  | succ n ih =>
    rw [List.replicate_succ, List.flatten_cons]
    by_cases h : j < key.length
    · rw [List.getD_append _ _ _ _ h, Nat.mod_eq_of_lt h]
    · rw [Nat.succ_mul] at hj
      rw [List.getD_append_right _ _ _ _ (by omega), ih (by omega), ← Nat.mod_eq_sub_mod (by omega)]

theorem cyclicWord_repeated {key : List Byte} (hkey : key ≠ []) (n c : Nat) :
    cyclicWord (List.replicate (n + 1) key).flatten c = cyclicWord key c := by
  have hpos : 0 < (n + 1) * key.length := Nat.mul_pos n.succ_pos (List.length_pos_of_ne_nil hkey)
  have hbyte (j : Nat) : (List.replicate (n + 1) key).flatten.getD (j % ((n + 1) * key.length)) 0#8 =
      key.getD (j % key.length) 0#8 := by
    rw [getD_flatten_replicate key (Nat.mod_lt j hpos), Nat.mod_mod_of_dvd j (Nat.dvd_mul_left ..)]
  simp only [cyclicWord, length_flatten_replicate, hbyte]

theorem schedule_eq_of_fields {a b : Schedule} (hp : a.p = b.p) (hs : a.s = b.s) : a = b := by
  cases a
  cases b
  exact congrArg₂ Schedule.mk hp hs

/-- Key mixing sees the key through its cyclic words only. -/
theorem mixKey_congr {key key' : List Byte} (h : ∀ c, cyclicWord key c = cyclicWord key' c) (sc : Schedule) :
    mixKey key sc = mixKey key' sc := by
  obtain ⟨_, hboxes, -, hwords⟩ := mixKey_mixedTo key sc
  obtain ⟨_, hboxes', -, hwords'⟩ := mixKey_mixedTo key' sc
  dsimp only at hboxes hboxes' hwords hwords'
  have hp : (mixKey key sc).p = (mixKey key' sc).p := Vector.ext fun i hi => by
    rw [← Schedule.pw_eq_getElem _ hi, ← Schedule.pw_eq_getElem _ hi, hwords i hi, hwords' i hi, h]
  exact schedule_eq_of_fields hp (hboxes.trans hboxes'.symm)

/-- Settles O43: a repeated key has the key's own cyclic words. -/
theorem repeatedKeyGivesTheSameSchedule : Obligations.RepeatedKeyGivesTheSameSchedule := by
  unfold Obligations.RepeatedKeyGivesTheSameSchedule
  intro key n hkey
  rw [keySchedule_eq_fillTables, keySchedule_eq_fillTables, mixKey_congr (cyclicWord_repeated hkey n)]

/-! ### Halves and their bytes (R135) -/

theorem append_byteOf (w : Word) : byteOf w 3 ++ byteOf w 2 ++ byteOf w 1 ++ byteOf w 0 = w := by
  simp only [byteOf]
  rw [BitVec.extractLsb'_append_extractLsb'_eq_extractLsb' (start₂ := 24) rfl,
    BitVec.extractLsb'_append_extractLsb'_eq_extractLsb' (start₂ := 16) rfl,
    BitVec.extractLsb'_append_extractLsb'_eq_extractLsb' (start₂ := 8) rfl]
  exact BitVec.extractLsb'_eq_self

theorem byteOf_append (b0 b1 b2 b3 : Byte) : byteOf (b0 ++ b1 ++ b2 ++ b3) 3 = b0 ∧
    byteOf (b0 ++ b1 ++ b2 ++ b3) 2 = b1 ∧ byteOf (b0 ++ b1 ++ b2 ++ b3) 1 = b2 ∧
    byteOf (b0 ++ b1 ++ b2 ++ b3) 0 = b3 := by
  refine ⟨?_, ?_, ?_, ?_⟩ <;>
    (ext i hi
     rw [byteOf, BitVec.getElem_extractLsb', BitVec.getLsbD_append, BitVec.getLsbD_append, BitVec.getLsbD_append]
     interval_cases i <;> simp)

theorem unpackHalf_packHalf (o : WordOrder) (b0 b1 b2 b3 : Byte) :
    unpackHalf o (packHalf o b0 b1 b2 b3) = [b0, b1, b2, b3] := by
  cases o <;> simp [packHalf, unpackHalf, byteOf_append]

theorem unpackHalf_injective (o : WordOrder) : Function.Injective (unpackHalf o) := by
  intro v w h
  rw [← append_byteOf v, ← append_byteOf w]
  cases o <;> simp_all [unpackHalf]

/-- A block written by its halves. -/
theorem onBlocks_halves (o : WordOrder) (f : Word → Word → Word × Word) (l r : Word) (rest : List Byte) :
    onBlocks o f (unpackHalf o l ++ unpackHalf o r ++ rest) =
      unpackHalf o (f l r).1 ++ unpackHalf o (f l r).2 ++ onBlocks o f rest := by
  cases o <;> simp [unpackHalf, onBlocks, packHalf, append_byteOf]

/-- Each block deciphers to itself. -/
theorem onBlocks_undoes {f g : Word → Word → Word × Word} (hundo : ∀ l r, g (f l r).1 (f l r).2 = (l, r))
    (o : WordOrder) {bs : List Byte} (h : bs.length % 8 = 0) : onBlocks o g (onBlocks o f bs) = bs := by
  induction bs using onBlocks.induct o f with
  | case1 b0 b1 b2 b3 b4 b5 b6 b7 rest ih =>
    simp only [List.length_cons] at h
    rw [onBlocks, onBlocks_halves, hundo, unpackHalf_packHalf, unpackHalf_packHalf, ih (by omega)]
    rfl
  | case2 bs hshort =>
    rw [eq_nil_of_no_block h hshort]
    rfl

/-- The half that memory holds at an address (R135). -/
def halfIn (o : WordOrder) (m : Memory) (a : Nat) : Word :=
  packHalf o (readByte m a) (readByte m (a + 1)) (readByte m (a + 2)) (readByte m (a + 3))

theorem halfAt_eq_halfIn (s : State) (a : Nat) : halfAt s a = halfIn s.cfg.wordOrder s.mem a := by
  unfold halfAt halfIn packHalf
  cases s.cfg.wordOrder <;> rfl

theorem readBytes_eq_half_append (o : WordOrder) (m : Memory) (a n : Nat) :
    readBytes m a (n + 4) = unpackHalf o (halfIn o m a) ++ readBytes m (a + 4) n := by
  rw [halfIn, unpackHalf_packHalf]
  simp only [readBytes_succ]
  rfl

/-- A range of blocks, its first block by halves. -/
theorem readBytes_eq_block_append (o : WordOrder) (m : Memory) (a n : Nat) : readBytes m a (8 * (n + 1)) =
    unpackHalf o (halfIn o m a) ++ unpackHalf o (halfIn o m (a + 4)) ++ readBytes m (a + 8) (8 * n) := by
  rw [List.append_assoc, ← readBytes_eq_half_append o m (a + 4) (8 * n), ← readBytes_eq_half_append]
  rfl

/-- Where a range holds the blocks of another through `f`, so does each chunk (R136). -/
theorem halves_of_onBlocks {o : WordOrder} {f : Word → Word → Word × Word} {m m' : Memory} {a d n : Nat}
    (h : readBytes m' d (8 * n) = onBlocks o f (readBytes m a (8 * n))) {k : Nat} (hk : k < n) :
    (halfIn o m' (d + 8 * k), halfIn o m' (d + 8 * k + 4)) =
      f (halfIn o m (a + 8 * k)) (halfIn o m (a + 8 * k + 4)) := by
  induction n generalizing a d k with
  | zero => omega
  | succ n ih =>
    rw [readBytes_eq_block_append o m', readBytes_eq_block_append o m, onBlocks_halves] at h
    obtain ⟨hblock, hrest⟩ := List.append_inj h (by simp [length_unpackHalf])
    obtain ⟨hleft, hright⟩ := List.append_inj hblock (by simp [length_unpackHalf])
    cases k with
    | zero => exact Prod.ext (unpackHalf_injective o hleft) (unpackHalf_injective o hright)
    | succ k =>
      have hnext (b : Nat) : b + 8 * (k + 1) = b + 8 + 8 * k := by omega
      rw [hnext, hnext]
      exact ih hrest (by omega)

/-! ### The string commands over memory -/

/-- What makes a command the string command of a block function. -/
structure IsStringCommand (i : Instr) (f : Schedule → Word → Word → Word × Word) : Prop where
  runs   : ∀ s, exec i s = .next (bfString i f s)
  range  : ∀ s, writeRanges i s = [{ base := s.x[2].toNat, len := s.x[1].toNat }]
  engine : engineOf i = .blowfish

theorem isStringCommand_encrypt : IsStringCommand .bfEncryptString bfE := ⟨fun _ => rfl, fun _ => rfl, rfl⟩
theorem isStringCommand_decrypt : IsStringCommand .bfDecryptString bfD := ⟨fun _ => rfl, fun _ => rfl, rfl⟩

/-- The destination after the command. -/
theorem readBytes_ciphered (f : Schedule → Word → Word → Word × Word) {s : State} (h : StringReady s)
    (hm : Memory.wf s.mem = true) : readBytes (writeBytes s.mem s.x[2].toNat (cipheredBytes f s)) s.x[2].toNat
      s.x[1].toNat = cipheredBytes f s := by
  obtain ⟨-, ⟨hlen, -, hdst, -⟩, -, -⟩ := h
  have hbytes := length_cipheredBytes f hlen
  have hread := readBytes_writeBytes_same (m := s.mem) (bs := cipheredBytes f s) (hbytes.symm ▸ hdst) hm
  rwa [hbytes] at hread

theorem bfString_chunks {i : Instr} {f : Schedule → Word → Word → Word × Word} (hi : IsStringCommand i f) {s : State}
    (h : StringReady s) (hm : Memory.wf s.mem = true) :
    ∃ t, exec i s = .next t ∧ WritesXAndRange [3] { base := s.x[2].toNat, len := s.x[1].toNat } s t ∧ t.x[3] = s.x[1] ∧
      ∀ k < s.x[1].toNat / 8, (halfAt t (s.x[2].toNat + 8 * k), halfAt t (s.x[2].toNat + 8 * k + 4)) =
        f s.sched (halfAt s (s.x[0].toNat + 8 * k)) (halfAt s (s.x[0].toNat + 8 * k + 4)) := by
  have hlen : s.x[1].toNat % 8 = 0 := h.2.1.1
  obtain ⟨n, hn⟩ := Nat.dvd_of_mod_eq_zero hlen
  obtain ⟨hends, hx, hblowfish, hmersenne, -⟩ := finish_setX_writesOnlyX 3 s.x[1] s
  refine ⟨_, (hi.runs s).trans (congrArg Host.Outcome.next (bfString_ciphered h)),
    ⟨hends, hx, hblowfish, hmersenne, fun a ha => ?_⟩, setX_get 3 3 s.x[1] s, fun k hk => ?_⟩
  · have houtside : ¬(s.x[2].toNat ≤ a ∧ a < s.x[2].toNat + s.x[1].toNat) := of_decide_eq_false ha
    have hbytes := length_cipheredBytes f hlen
    exact readByte_writeBytes_other s.mem s.x[2].toNat (cipheredBytes f s) a (by omega)
  · have hwritten : readBytes (writeBytes s.mem s.x[2].toNat (cipheredBytes f s)) s.x[2].toNat (8 * n) =
        onBlocks s.cfg.wordOrder (f s.sched) (readBytes s.mem s.x[0].toNat (8 * n)) := by
      rw [← hn]
      exact readBytes_ciphered f h hm
    rw [halfAt_eq_halfIn, halfAt_eq_halfIn, halfAt_eq_halfIn, halfAt_eq_halfIn]
    exact halves_of_onBlocks hwritten (by omega)

/-- Settles O45: the destination's blocks are those of the source through the cipher, chunk by chunk. -/
theorem stringCommandsCipherEveryChunk : Obligations.StringCommandsCipherEveryChunk := by
  unfold Obligations.StringCommandsCipherEveryChunk
  rintro p hp s _ _ _ rfl rfl rfl h hm
  rcases List.mem_pair.1 hp with rfl | rfl
  · exact bfString_chunks isStringCommand_encrypt h hm
  · exact bfString_chunks isStringCommand_decrypt h hm

/-- The checks of a string command in order (R130), one branch each. -/
theorem bfString_checks {i : Instr} {f : Schedule → Word → Word → Word × Word} (hi : IsStringCommand i f) (s : State) :
    (s.keyed = false → ∃ t, exec i s = .next t ∧ FaultsCleanly .notKeyed s t) ∧
    (s.keyed = true → s.x[1].toNat % 8 ≠ 0 → ∃ t, exec i s = .next t ∧ FaultsCleanly .badBlockLen s t) ∧
    (s.keyed = true → s.x[1].toNat % 8 = 0 → ¬ StringRangesOk s →
      ∃ t, exec i s = .next t ∧ FaultsCleanly .badBuffer s t) ∧
    (s.keyed = true → StringRangesOk s →
      Refuses s s.x[0].toNat s.x[1].toNat false ∨ Refuses s s.x[2].toNat s.x[1].toNat true →
      ∃ t, exec i s = .next t ∧
        FaultsInMemory .busError { base := s.x[2].toNat, len := s.x[1].toNat } s t ∧ KeepsMersenne s t) := by
  rw [hi.runs]
  refine ⟨fun h => ⟨_, rfl, ?_⟩, fun hkeyed h => ⟨_, rfl, ?_⟩, fun hkeyed hlen h => ⟨_, rfl, ?_⟩,
    fun hkeyed hranges h => ⟨_, rfl, ?_⟩⟩
  · rw [bfString_notKeyed h]
    exact raise_faultsCleanly .notKeyed s
  · rw [bfString_badLength hkeyed h]
    exact raise_faultsCleanly .badBlockLen s
  · rw [bfString_badRanges hkeyed hlen h]
    exact raise_faultsCleanly .badBuffer s
  · rw [bfString_refused hkeyed hranges h]
    obtain ⟨henters, hx, hmem, -, hmersenne⟩ := midFault_spec .busError i s
    rw [hi.range] at hmem
    rw [hi.engine] at hmersenne
    exact ⟨⟨henters, hx, fun a ha => hmem a (List.forall_mem_singleton.2 ha)⟩, hmersenne (by decide)⟩

/-- Settles O46: the branches of `bfString_checks`, for both commands. -/
theorem stringCommandsCheckInOrder : Obligations.StringCommandsCheckInOrder := by
  unfold Obligations.StringCommandsCheckInOrder
  intro i hi s
  rcases List.mem_pair.1 hi with rfl | rfl
  · exact bfString_checks isStringCommand_encrypt s
  · exact bfString_checks isStringCommand_decrypt s

/-- Settles O47: the second command's source is the first one's destination, and each block deciphers to itself. -/
theorem stringDecryptionRestoresTheText : Obligations.StringDecryptionRestoresTheText := by
  unfold Obligations.StringDecryptionRestoresTheText
  rintro s _ u h hm ⟨⟩ hu hread
  rw [bfString_ciphered h] at hu
  obtain ⟨hkeyed, ⟨hlen, -, hdst, -⟩, -, hwrite⟩ := id h
  have hx0 : u.x[0] = s.x[2] := by simp [hu]
  have hx1 : u.x[1] = s.x[1] := by simp [hu]
  have hx2 : u.x[2] = s.x[2] := by simp [hu]
  have hcfg : u.cfg = s.cfg := by rw [hu]; rfl
  have hready : StringReady u := by
    refine ⟨by rw [hu]; exact hkeyed, ⟨by rwa [hx1], by rwa [hx0, hx1], by rwa [hx1, hx2], .inl (hx2.trans hx0.symm)⟩,
      by rwa [hx0, hx1], ?_⟩
    rw [hx1, hx2, Writable, hcfg]
    exact hwrite
  have hmem : u.mem = writeBytes s.mem s.x[2].toNat (cipheredBytes bfE s) := by rw [hu]; rfl
  have hwf : Memory.wf u.mem = true := by
    rw [hmem]
    exact wf_writeBytes_of_inSpace ((length_cipheredBytes bfE hlen).symm ▸ hdst) hm
  have hsource : readBytes u.mem u.x[0].toNat u.x[1].toNat = cipheredBytes bfE s := by
    rw [hmem, hx0, hx1, readBytes_ciphered bfE h hm]
  have hplain : cipheredBytes bfD u = readBytes s.mem s.x[0].toNat s.x[1].toNat := by
    have hsched : u.sched = s.sched := by rw [hu]; rfl
    rw [cipheredBytes, hsource, hcfg, hsched, cipheredBytes]
    exact onBlocks_undoes (fun l r => (decryptionUndoesEncryption s.sched l r).1) _ (by rwa [length_readBytes])
  refine ⟨_, congrArg Host.Outcome.next (bfString_ciphered hready), rfl, fun k hk => ?_⟩
  have hwritten : (cipheredBytes bfD u)[k]? = some (readByte s.mem (s.x[0].toNat + k)) :=
    hplain ▸ getElem?_readBytes s.mem s.x[0].toNat hk
  rw [← hx2]
  refine readByte_writeBytes_of_getElem? hwritten ?_ hwf
  rw [length_cipheredBytes bfD (by rwa [hx1]), hx1, hx2]
  exact hdst

end Sys2Proof.Machine

/-! ## How a command ends (R26, R51, R195, R196)

Every command ends in one of three ways, and which one, with the values it leaves, is fixed by the state without its
memory and by the bytes of the command's read ranges. The rules about every command are read off that. -/

namespace Sys2Proof.Machine

/-! ### The three ends -/

/-- What a normal end writes: the registers, both engines, and bytes from an address on. -/
structure NormalEnd where
  x     : Vector Word 8
  sched : Schedule
  keyed : Bool
  gen   : Generator
  dest  : Nat
  bytes : List Byte

/-- How a command ends: a fault before its memory accesses, a fault in them, or normally. -/
inductive CommandEnd where
  | clean (c : FaultCode)
  | midway (c : FaultCode)
  | normal (e : NormalEnd)

def NormalEnd.run (e : NormalEnd) (s : State) : State :=
  finish { s with x := e.x, sched := e.sched, keyed := e.keyed, gen := e.gen, mem := writeBytes s.mem e.dest e.bytes }

/-- The state that an end leaves. -/
def CommandEnd.run (i : Instr) (s : State) : CommandEnd → State
  | clean c  => raise c s
  | midway c => midFault c i s
  | normal e => e.run s

/-- What a command may write at its normal end. -/
structure NormalEnd.Allowed (e : NormalEnd) (i : Instr) (s : State) : Prop where
  regs     : ∀ r : Fin 8, r ∉ resultRegs i → e.x[r] = s.x[r]
  blowfish : i ≠ .bfInit → e.sched = s.sched ∧ e.keyed = s.keyed
  cursor   : s.gen.mti.toNat ≤ 625 → e.gen.mti.toNat ≤ 625
  room     : InSpace e.dest e.bytes.length
  range    : writeRanges i s = [{ base := e.dest, len := e.bytes.length }] ∨ (writeRanges i s = [] ∧ e.bytes = [])

/-- A normal end within the command's reach, and in its memory accesses one of three faults. -/
def CommandEnd.Allowed (i : Instr) (s : State) : CommandEnd → Prop
  | clean _  => True
  | midway c => c = .busError ∨ c = .badB64Char ∨ c = .badStateBlob
  | normal e => e.Allowed i s

/-- The memory `m` holds what `s` holds in the command's read ranges. -/
def ReadsAlike (i : Instr) (s : State) (m : Memory) : Prop :=
  ∀ q ∈ readRanges i s, ∀ a : Nat, q.has a = true → readByte m a = readByte s.mem a

/-- The command `f` ends one way over every memory that reads like the state's own. -/
def EndsAs (i : Instr) (f : State → State) (s : State) : Prop :=
  ∃ e : CommandEnd, e.Allowed i s ∧ ∀ m, ReadsAlike i s m → f { s with mem := m } = e.run i { s with mem := m }

theorem readBytes_of_readsAlike {i : Instr} {s : State} {m : Memory} {a n : Nat} (h : ReadsAlike i s m)
    (hrange : readRanges i s = [{ base := a, len := n }]) : readBytes m a n = readBytes s.mem a n := by
  refine List.map_congr_left fun k hk => h _ (hrange ▸ List.mem_singleton_self _) _ (decide_eq_true ?_)
  have hlt := List.mem_range.1 hk
  dsimp only
  omega

/-- MEM_ADMIT lets all of a range be accessed, or refuses some byte of it. -/
theorem admits_or_refuses (s : State) (a n : Nat) (w : Bool) :
    (∀ k < n, memAdmit s.cfg (a + k) w = true) ∨ Refuses s a n w := by
  by_cases h : Refuses s a n w
  · exact .inr h
  · exact .inl (by simpa [Refuses] using h)

section
variable {i : Instr} {f : State → State} {s : State}

theorem EndsAs.clean (c : FaultCode) (h : ∀ m, f { s with mem := m } = raise c { s with mem := m }) : EndsAs i f s :=
  ⟨.clean c, trivial, fun m _ => h m⟩

theorem EndsAs.busError (h : ∀ m, f { s with mem := m } = midFault .busError i { s with mem := m }) : EndsAs i f s :=
  ⟨.midway .busError, .inl rfl, fun m _ => h m⟩

/-- A command without a write range that sets registers and the generator. -/
theorem EndsAs.sets (x : Vector Word 8) (g : Generator) (hx : ∀ r : Fin 8, r ∉ resultRegs i → x[r] = s.x[r])
    (hg : s.gen.mti.toNat ≤ 625 → g.mti.toNat ≤ 625) (hrange : writeRanges i s = [])
    (h : ∀ m, ReadsAlike i s m → f { s with mem := m } = finish { s with mem := m, x := x, gen := g }) :
    EndsAs i f s :=
  ⟨.normal { x := x, sched := s.sched, keyed := s.keyed, gen := g, dest := 0, bytes := [] },
    ⟨hx, fun _ => ⟨rfl, rfl⟩, hg, .inl rfl, .inr ⟨hrange, rfl⟩⟩, h⟩

/-- A command that sets registers and writes its write range. -/
theorem EndsAs.stores (x : Vector Word 8) (a : Nat) (bs : List Byte)
    (hx : ∀ r : Fin 8, r ∉ resultRegs i → x[r] = s.x[r]) (hroom : InSpace a bs.length)
    (hrange : writeRanges i s = [{ base := a, len := bs.length }])
    (h : ∀ m, ReadsAlike i s m → f { s with mem := m } = finish { s with mem := writeBytes m a bs, x := x }) :
    EndsAs i f s :=
  ⟨.normal { x := x, sched := s.sched, keyed := s.keyed, gen := s.gen, dest := a, bytes := bs },
    ⟨hx, fun _ => ⟨rfl, rfl⟩, id, hroom, .inl hrange⟩, h⟩

theorem setX_other {rs : List (Fin 8)} {q : Fin 8} (hq : q ∈ rs) (v : Word) (s : State) :
    ∀ r : Fin 8, r ∉ rs → (setX q v s).x[r] = s.x[r] := fun r hr =>
  (setX_get q r v s).trans (if_neg fun h : r = q => hr (h ▸ hq))

end

/-! ### Blowfish -/

theorem bfInit_endsAs (s : State) : EndsAs .bfInit bfInit s := by
  by_cases hlen : s.x[1].toNat = 0 ∨ 56 < s.x[1].toNat
  · exact .clean .badKeyLen fun m => bfInit_badLength hlen
  obtain ⟨hmin, hmax⟩ : 1 ≤ s.x[1].toNat ∧ s.x[1].toNat ≤ 56 := by omega
  by_cases hspace : InSpace s.x[0].toNat s.x[1].toNat
  · rcases admits_or_refuses s s.x[0].toNat s.x[1].toNat false with hread | hrefuses
    · let sched := keySchedule (readBytes s.mem s.x[0].toNat s.x[1].toNat)
      refine ⟨.normal { x := s.x, sched := sched, keyed := true, gen := s.gen, dest := 0, bytes := [] },
        ⟨fun _ _ => rfl, fun h => absurd rfl h, id, .inl rfl, .inr ⟨rfl, rfl⟩⟩, fun m hm => ?_⟩
      dsimp only [sched]
      rw [← readBytes_of_readsAlike hm rfl]
      exact bfInit_keyed (s := { s with mem := m }) hmin hmax ⟨hspace, hread⟩
    · exact .busError fun m => bfInit_refused (s := { s with mem := m }) hmin hmax hspace hrefuses
  · exact .clean .badBuffer fun m => bfInit_badRange (s := { s with mem := m }) hmin hmax hspace

theorem bfBlock_endsAs {i : Instr} (f : Schedule → Word → Word → Word × Word) (s : State)
    (hregs : resultRegs i = [0, 1]) (hrange : writeRanges i s = []) : EndsAs i (bfBlock f) s := by
  cases hkeyed : s.keyed with
  | false => exact .clean .notKeyed fun m => bfBlock_notKeyed (s := { s with mem := m }) f hkeyed
  | true =>
    obtain ⟨-, hkept, -⟩ := bfBlock_writesOnlyX f hkeyed
    rw [bfBlock_keyed f hkeyed] at hkept
    let b := f s.sched s.x[0] s.x[1]
    exact .sets (setX 1 b.2 (setX 0 b.1 s)).x s.gen (hregs ▸ hkept) id hrange fun m _ => bfBlock_keyed (s := { s with mem := m }) f hkeyed

theorem bfString_endsAs {i : Instr} (f : Schedule → Word → Word → Word × Word) (s : State)
    (hregs : resultRegs i = [3]) (hreads : readRanges i s = [{ base := s.x[0].toNat, len := s.x[1].toNat }])
    (hwrites : writeRanges i s = [{ base := s.x[2].toNat, len := s.x[1].toNat }]) : EndsAs i (bfString i f) s := by
  cases hkeyed : s.keyed with
  | false => exact .clean .notKeyed fun m => bfString_notKeyed (s := { s with mem := m }) hkeyed
  | true =>
    by_cases hlen : s.x[1].toNat % 8 = 0
    case neg => exact .clean .badBlockLen fun m => bfString_badLength (s := { s with mem := m }) hkeyed hlen
    by_cases hranges : StringRangesOk s
    case neg => exact .clean .badBuffer fun m => bfString_badRanges (s := { s with mem := m }) hkeyed hlen hranges
    obtain ⟨-, hsrc, hdst, -⟩ := id hranges
    rcases admits_or_refuses s s.x[0].toNat s.x[1].toNat false with hread | hrefuses
    case inr =>
      exact .busError fun m => bfString_refused (s := { s with mem := m }) hkeyed hranges (.inl hrefuses)
    rcases admits_or_refuses s s.x[2].toNat s.x[1].toNat true with hwrite | hrefuses
    case inr =>
      exact .busError fun m => bfString_refused (s := { s with mem := m }) hkeyed hranges (.inr hrefuses)
    have hbytes := length_cipheredBytes f hlen
    refine .stores (setX 3 s.x[1] s).x s.x[2].toNat (cipheredBytes f s)
      (setX_other (hregs ▸ List.mem_singleton_self _) _ s) (hbytes.symm ▸ hdst) (hbytes.symm ▸ hwrites) fun m hm => ?_
    rw [cipheredBytes, ← readBytes_of_readsAlike hm hreads]
    exact bfString_ciphered (s := { s with mem := m }) ⟨hkeyed, hranges, ⟨hsrc, hread⟩, hdst, hwrite⟩

/-! ### Mersenne Twister -/

theorem seeded_cursor_le : (624#32 : Word).toNat ≤ 625 := by decide

theorem mtSeed_endsAs (s : State) : EndsAs .mtSeed mtSeed s :=
  .sets s.x { mt := mtInit s.x[0], mti := 624#32 } (fun _ _ => rfl) (fun _ => seeded_cursor_le) rfl fun _ _ => rfl

theorem mtSeedArray_endsAs (s : State) : EndsAs .mtSeedArray mtSeedArray s := by
  by_cases hlen : s.x[1].toNat = 0
  · exact .clean .badSeedLen fun m => mtSeedArray_empty (s := { s with mem := m }) hlen
  have hmin : 1 ≤ s.x[1].toNat := Nat.one_le_iff_ne_zero.2 hlen
  by_cases hspace : InSpace s.x[0].toNat (4 * s.x[1].toNat)
  case neg => exact .clean .badBuffer fun m => mtSeedArray_badRange (s := { s with mem := m }) hmin hspace
  rcases admits_or_refuses s s.x[0].toNat (4 * s.x[1].toNat) false with hread | hrefuses
  case inr => exact .busError fun m => mtSeedArray_refused (s := { s with mem := m }) hmin hspace hrefuses
  let mt := mtInitArray (leWords (readBytes s.mem s.x[0].toNat (4 * s.x[1].toNat)))
  refine .sets s.x { mt := mt, mti := 624#32 } (fun _ _ => rfl) (fun _ => seeded_cursor_le) rfl fun m hm => ?_
  dsimp only [mt]
  rw [← readBytes_of_readsAlike hm rfl, leWords_readBytes { s with mem := m }]
  exact mtSeedArray_seeded (s := { s with mem := m }) hmin ⟨hspace, hread⟩

theorem draw_cursor_le {g : Generator} (h : g.mti.toNat ≤ 625) : (draw g).2.mti.toNat ≤ 625 :=
  (draw_cursor g h).2.trans (by decide)

theorem mtRand32_endsAs (s : State) : EndsAs .mtRand32 mtRand32 s :=
  .sets (setX 0 (draw s.gen).1 s).x (draw s.gen).2 (setX_other (List.mem_singleton_self 0) _ s) draw_cursor_le rfl fun _ _ => rfl

theorem mtRandFloat_endsAs (s : State) : EndsAs .mtRandFloat mtRandFloat s :=
  .sets (setX 0 (floatBits (draw s.gen).1) s).x (draw s.gen).2 (setX_other (List.mem_singleton_self 0) _ s) draw_cursor_le rfl fun _ _ => rfl

theorem setPair0_other (v : BitVec 64) (s : State) (r : Fin 8) (hr : r ∉ [0, 1]) : (setPair0 v s).x[r] = s.x[r] :=
  (setX_other (rs := [0, 1]) (by decide) _ _ r hr).trans (setX_other (rs := [0, 1]) (by decide) _ s r hr)

theorem mtRandDouble_endsAs (s : State) : EndsAs .mtRandDouble mtRandDouble s :=
  .sets (setPair0 (bits64 (drawDouble s.gen).1 53) s).x (drawDouble s.gen).2 (setPair0_other _ s) (fun h => draw_cursor_le (draw_cursor_le h)) rfl fun _ _ => rfl

theorem mtRandRange_endsAs (s : State) : EndsAs .mtRandRange mtRandRange s := by
  by_cases h : s.x[1].toInt < s.x[0].toInt
  · exact .clean .badRange fun m => mtRandRange_reversed (s := { s with mem := m }) h
  · let v := BitVec.ofInt 32 (s.x[0].toInt + (rangeOffset (drawnInt s.gen) (rangeSize s) : Int))
    exact .sets (setX 0 v s).x (draw (draw s.gen).2).2 (setX_other (List.mem_singleton_self 0) _ s)
      (fun h => draw_cursor_le (draw_cursor_le h)) rfl
      fun m _ => mtRandRange_drawn (s := { s with mem := m }) (Int.not_lt.1 h)

theorem mtSave_endsAs (s : State) : EndsAs .mtSave mtSave s := by
  have hregs (v : Word) := setX_other (List.mem_singleton_self 0) v s
  by_cases hshort : s.x[1].toNat < 2500
  · exact .sets _ s.gen (hregs 2500#32) id (if_neg hshort.not_ge) fun m _ => mtSave_short (s := { s with mem := m }) hshort
  have hlen : 2500 ≤ s.x[1].toNat := Nat.le_of_not_lt hshort
  by_cases hspace : InSpace s.x[0].toNat 2500
  case neg => exact .clean .badBuffer fun m => mtSave_badRange (s := { s with mem := m }) hlen hspace
  rcases admits_or_refuses s s.x[0].toNat 2500 true with hwrite | hrefuses
  case inr => exact .busError fun m => mtSave_refused (s := { s with mem := m }) hlen hspace hrefuses
  have hblob : (blobOf s.gen).length = 2500 := length_blobOf s.gen
  have hrange : writeRanges .mtSave s = [{ base := s.x[0].toNat, len := 2500 }] := if_pos hlen
  exact .stores _ s.x[0].toNat (blobOf s.gen) (hregs 0#32) (hblob.symm ▸ hspace) (hblob.symm ▸ hrange)
    fun m _ => mtSave_saved (s := { s with mem := m }) hlen ⟨hspace, hwrite⟩

theorem mtRestore_endsAs (s : State) : EndsAs .mtRestore mtRestore s := by
  by_cases hspace : InSpace s.x[0].toNat 2500
  case neg => exact .clean .badBuffer fun m => mtRestore_badRange (s := { s with mem := m }) hspace
  rcases admits_or_refuses s s.x[0].toNat 2500 false with hread | hrefuses
  case inr => exact .busError fun m => mtRestore_refused (s := { s with mem := m }) hspace hrefuses
  have halike {m : Memory} (hm : ReadsAlike .mtRestore s m) :
      generatorAt { s with mem := m } s.x[0].toNat = generatorAt s s.x[0].toNat := by
    rw [← ofBlobWords_readBytes, ← ofBlobWords_readBytes, readBytes_of_readsAlike hm rfl]
  have hrun {m : Memory} (hm : ReadsAlike .mtRestore s m) : mtRestore { s with mem := m } =
      if 625 < (generatorAt s s.x[0].toNat).mti.toNat then midFault .badStateBlob .mtRestore { s with mem := m }
      else finish { s with mem := m, gen := generatorAt s s.x[0].toNat } := by
    rw [← halike hm]
    exact mtRestore_read (s := { s with mem := m }) ⟨hspace, hread⟩
  by_cases hcursor : 625 < (generatorAt s s.x[0].toNat).mti.toNat
  · exact ⟨.midway .badStateBlob, .inr (.inr rfl), fun m hm => (hrun hm).trans (if_pos hcursor)⟩
  · exact .sets s.x _ (fun _ _ => rfl) (fun _ => Nat.le_of_not_lt hcursor) rfl
      fun m hm => (hrun hm).trans (if_neg hcursor)
/-! ### Base64 -/

/-- The codes' commands past their checks: a normal end writes what the code gives of the source. -/
theorem recode_endsAs {i : Instr} {len : Nat} {code : List Byte → List Byte × Bool} {s : State}
    (hregs : resultRegs i = [0]) (hreads : readRanges i s = [{ base := s.x[1].toNat, len := s.x[2].toNat }])
    (hfit : (code (sourceBytes s)).1.length ≤ len)
    (hwrites : (∀ k < s.x[2].toNat, memAdmit s.cfg (s.x[1].toNat + k) false = true) →
      writeRanges i s = [{ base := s.x[0].toNat, len := (code (sourceBytes s)).1.length }]) :
    EndsAs i (recode i len code) s := by
  by_cases hranges : RecodeRangesOk len s
  case neg => exact .clean .badBuffer fun m => recode_badRanges (s := { s with mem := m }) hranges
  have hrun (m : Memory) : recode i len code { s with mem := m } = recodeChecked i code { s with mem := m } :=
    recode_of_rangesOk (s := { s with mem := m }) hranges
  have hsource {m : Memory} (hm : ReadsAlike i s m) : sourceBytes { s with mem := m } = sourceBytes s :=
    readBytes_of_readsAlike hm hreads
  rcases admits_or_refuses s s.x[1].toNat s.x[2].toNat false with hread | hrefuses
  case inr =>
    exact .busError fun m => (hrun m).trans (recodeChecked_refused (s := { s with mem := m }) (.inl hrefuses))
  rcases admits_or_refuses s s.x[0].toNat (code (sourceBytes s)).1.length true with hwrite | hrefuses
  case inr =>
    refine ⟨.midway .busError, .inl rfl, fun m hm => (hrun m).trans (recodeChecked_refused (.inr ?_))⟩
    rwa [hsource hm]
  have hend {m : Memory} (hm : ReadsAlike i s m) : recode i len code { s with mem := m } =
      if (code (sourceBytes s)).2 then
        storeAndReturn (code (sourceBytes s)).1 (BitVec.ofNat 32 (code (sourceBytes s)).1.length) { s with mem := m }
      else midFault .badB64Char i { s with mem := m } := by
    rw [hrun, ← hsource hm]
    exact recodeChecked_admitted hread (by rwa [hsource hm])
  by_cases hlegal : (code (sourceBytes s)).2 = true
  · exact .stores _ s.x[0].toNat _ (setX_other (hregs ▸ List.mem_singleton_self _) _ s) (hranges.2.1.mono hfit)
      (hwrites hread) fun m hm => (hend hm).trans (if_pos hlegal)
  · exact ⟨.midway .badB64Char, .inr (.inl rfl), fun m hm => (hend hm).trans (if_neg hlegal)⟩

theorem b64EncLen_endsAs (s : State) : EndsAs .b64EncLen b64EncLen s := by
  by_cases h : 4294967295 < encLen s.x[0].toNat
  · exact .clean .lengthOverflow fun m => if_pos h
  · exact .sets (setX 0 (BitVec.ofNat 32 (encLen s.x[0].toNat)) s).x s.gen
      (setX_other (List.mem_singleton_self 0) _ s) id rfl fun m _ => if_neg h

theorem b64DecLen_endsAs (s : State) : EndsAs .b64DecLen b64DecLen s :=
  .sets (setX 0 (BitVec.ofNat 32 (decLen s.x[0].toNat)) s).x s.gen (setX_other (List.mem_singleton_self 0) _ s) id rfl
    fun _ _ => rfl

theorem b64Encode_endsAs (s : State) : EndsAs .b64Encode b64EncodeCmd s := by
  by_cases h : 4294967295 < encLen s.x[2].toNat
  · exact .clean .lengthOverflow fun m => b64EncodeCmd_tooLong (s := { s with mem := m }) h
  obtain ⟨e, hallowed, hrun⟩ := recode_endsAs (i := .b64Encode) (code := encodeOutput) rfl rfl
    (length_encodedBytes s).le fun _ => by rw [encodeOutput, length_encodedBytes]; rfl
  exact ⟨e, hallowed, fun m hm => (b64EncodeCmd_eq_recode (s := { s with mem := m }) (Nat.le_of_not_lt h)).trans
    (hrun m hm)⟩

/-- Where its source can be read, B64_DECODE's write range is what its code gives (R51). -/
theorem decodeReach_of_admits {s : State} (h : ∀ k < s.x[2].toNat, memAdmit s.cfg (s.x[1].toNat + k) false = true) :
    decodeReach s = (b64Decode (sourceBytes s)).1.length := by
  have hload : loadBytes s s.x[1].toNat s.x[2].toNat = some (sourceBytes s) := (loadBytes_eq_some ..).2 ⟨h, rfl⟩
  simp only [decodeReach, hload]

theorem b64Decode_endsAs (s : State) : EndsAs .b64Decode b64DecodeCmd s := by
  have hfit := length_b64Decode_le (sourceBytes s)
  rw [length_sourceBytes] at hfit
  refine recode_endsAs rfl rfl hfit fun h => ?_
  rw [← decodeReach_of_admits h]
  rfl

/-! ### Byte order -/

theorem onRegister_endsAs {i : Instr} (f : Nat → Nat → Nat) (sz : Nat) (s : State) (h0 : 0 ∈ resultRegs i)
    (h1 : sz = 8 → 1 ∈ resultRegs i) (hrange : writeRanges i s = []) :
    EndsAs i (fun t => finish (onRegister f sz t)) s := by
  have hkept := (onRegister_spec f sz s).2
  refine .sets (onRegister f sz s).x s.gen (fun r hr => hkept r (fun h => hr (h ▸ h0)) fun hsz h => hr (h ▸ h1 hsz)) id
    hrange fun m _ => ?_
  unfold onRegister
  split <;> rfl

theorem fixbo_endsAs {i : Instr} (sz : Nat) (s : State) (h0 : 0 ∈ resultRegs i) (h1 : sz = 8 → 1 ∈ resultRegs i)
    (hrange : writeRanges i s = []) : EndsAs i (fixbo sz) s :=
  onRegister_endsAs (fun n v => if s.cfg.hostBigEndian then rev n v else lowBytes n v) sz s h0 h1 hrange

theorem fixboArray_endsAs {i : Instr} {sz : Nat} (h : IsFixboArray i sz) (s : State)
    (hreads : readRanges i s = swapRange sz s) : EndsAs i (fixboArray i sz) s := by
  by_cases hlt : s.x[1].toNat < s.x[0].toNat
  · exact .clean .badBuffer fun m => fixboArray_reversed (s := { s with mem := m }) hlt
  have hle : s.x[0].toNat ≤ s.x[1].toNat := Nat.le_of_not_lt hlt
  by_cases hwhole : (s.x[1].toNat - s.x[0].toNat) % sz = 0
  case neg => exact .clean .badBuffer fun m => fixboArray_partial (s := { s with mem := m }) hle hwhole
  by_cases hswap : s.cfg.hostBigEndian = true ∧ 1 < sz
  case neg =>
    exact .sets s.x s.gen (fun _ _ => rfl) id ((h.range s).trans (if_neg hswap))
      fun m _ => fixboArray_untouched (s := { s with mem := m }) hle hwhole hswap
  have hrange : swapRange sz s = [{ base := s.x[0].toNat, len := s.x[1].toNat - s.x[0].toNat }] := if_pos hswap
  rcases admits_or_refuses s s.x[0].toNat (s.x[1].toNat - s.x[0].toNat) false with hread | hrefuses
  case inr => exact .busError fun m => fixboArray_refused (s := { s with mem := m }) hle hwhole hswap (.inl hrefuses)
  rcases admits_or_refuses s s.x[0].toNat (s.x[1].toNat - s.x[0].toNat) true with hwrite | hrefuses
  case inr => exact .busError fun m => fixboArray_refused (s := { s with mem := m }) hle hwhole hswap (.inr hrefuses)
  have hspace : InSpace s.x[0].toNat (s.x[1].toNat - s.x[0].toNat) := .inr (by
    have := s.x[1].isLt
    omega)
  have hbytes := length_swappedElements hwhole
  refine .stores s.x s.x[0].toNat (swappedElements sz s) (fun _ _ => rfl) (hbytes.symm ▸ hspace)
    (by rw [h.range, hrange, hbytes]) fun m hm => ?_
  rw [swappedElements, ← readBytes_of_readsAlike hm (hreads.trans hrange)]
  exact fixboArray_swapped (s := { s with mem := m }) hle hwhole hswap ⟨hspace, hread⟩ ⟨hspace, hwrite⟩

/-! ### Every command -/

/-- The way a command ends, over every memory that reads like the state's own. -/
def ExecEndsAs (i : Instr) (s : State) : Prop :=
  ∃ e : CommandEnd, e.Allowed i s ∧
    ∀ m, ReadsAlike i s m → exec i { s with mem := m } = .next (e.run i { s with mem := m })

theorem EndsAs.exec {i : Instr} {f : State → State} {s : State} (h : EndsAs i f s)
    (hf : ∀ t, Sys2Proof.Machine.exec i t = .next (f t)) : ExecEndsAs i s := by
  obtain ⟨e, hallowed, hrun⟩ := h
  exact ⟨e, hallowed, fun m hm => (hf _).trans (congrArg Host.Outcome.next (hrun m hm))⟩

theorem execEndsAs (i : Instr) (s : State) : ExecEndsAs i s := by
  cases i with
  | bfInit => exact (bfInit_endsAs s).exec fun _ => rfl
  | bfEncrypt => exact (bfBlock_endsAs bfE s rfl rfl).exec fun _ => rfl
  | bfDecrypt => exact (bfBlock_endsAs bfD s rfl rfl).exec fun _ => rfl
  | bfEncryptString => exact (bfString_endsAs bfE s rfl rfl rfl).exec fun _ => rfl
  | bfDecryptString => exact (bfString_endsAs bfD s rfl rfl rfl).exec fun _ => rfl
  | mtSeed => exact (mtSeed_endsAs s).exec fun _ => rfl
  | mtSeedArray => exact (mtSeedArray_endsAs s).exec fun _ => rfl
  | mtRand32 => exact (mtRand32_endsAs s).exec fun _ => rfl
  | mtRandFloat => exact (mtRandFloat_endsAs s).exec fun _ => rfl
  | mtRandDouble => exact (mtRandDouble_endsAs s).exec fun _ => rfl
  | mtRandRange => exact (mtRandRange_endsAs s).exec fun _ => rfl
  | mtSave => exact (mtSave_endsAs s).exec fun _ => rfl
  | mtRestore => exact (mtRestore_endsAs s).exec fun _ => rfl
  | b64EncLen => exact (b64EncLen_endsAs s).exec fun _ => rfl
  | b64Encode => exact (b64Encode_endsAs s).exec fun _ => rfl
  | b64DecLen => exact (b64DecLen_endsAs s).exec fun _ => rfl
  | b64Decode => exact (b64Decode_endsAs s).exec fun _ => rfl
  | bswap1 => exact (onRegister_endsAs rev 1 s (by decide) (by decide) rfl).exec fun _ => rfl
  | bswap2 => exact (onRegister_endsAs rev 2 s (by decide) (by decide) rfl).exec fun _ => rfl
  | bswap4 => exact (onRegister_endsAs rev 4 s (by decide) (by decide) rfl).exec fun _ => rfl
  | bswap8 => exact (onRegister_endsAs rev 8 s (by decide) (by decide) rfl).exec fun _ => rfl
  | fixbo1 => exact (fixbo_endsAs 1 s (by decide) (by decide) rfl).exec fun _ => rfl
  | fixbo2 => exact (fixbo_endsAs 2 s (by decide) (by decide) rfl).exec fun _ => rfl
  | fixbo4 => exact (fixbo_endsAs 4 s (by decide) (by decide) rfl).exec fun _ => rfl
  | fixbo8 => exact (fixbo_endsAs 8 s (by decide) (by decide) rfl).exec fun _ => rfl
  | fixboArray1 => exact (fixboArray_endsAs (isFixboArray (.fixboArray1, 1) (by decide)) s rfl).exec fun _ => rfl
  | fixboArray2 => exact (fixboArray_endsAs (isFixboArray (.fixboArray2, 2) (by decide)) s rfl).exec fun _ => rfl
  | fixboArray4 => exact (fixboArray_endsAs (isFixboArray (.fixboArray4, 4) (by decide)) s rfl).exec fun _ => rfl
  | fixboArray8 => exact (fixboArray_endsAs (isFixboArray (.fixboArray8, 8) (by decide)) s rfl).exec fun _ => rfl

end Sys2Proof.Machine

/-! ## Rules about every command (R25, R26, R28, R51, R196)

Each is read off the three ends of `execEndsAs`. -/

namespace Sys2Proof.Machine

/-- Every command answers the state of an end that it is allowed. -/
theorem exec_ends (i : Instr) (s : State) :
    ∃ e : CommandEnd, e.Allowed i s ∧ exec i s = .next (e.run i s) := by
  obtain ⟨e, hallowed, hrun⟩ := execEndsAs i s
  exact ⟨e, hallowed, hrun s.mem fun _ _ _ _ => rfl⟩

theorem eq_run_of_exec {i : Instr} {s t : State} (h : exec i s = .next t) :
    ∃ e : CommandEnd, e.Allowed i s ∧ t = e.run i s := by
  obtain ⟨e, hallowed, hrun⟩ := exec_ends i s
  exact ⟨e, hallowed, Host.Outcome.next.inj (h.symm.trans hrun)⟩

namespace CommandEnd

variable {i : Instr} {s : State} {e : CommandEnd}

theorem run_running (e : CommandEnd) (i : Instr) (s : State) : (e.run i s).running = none := by
  cases e with
  | clean c => rfl
  | midway c => exact midFault_running c i s
  | normal e => rfl

theorem run_keepsOutside (e : CommandEnd) (i : Instr) (s : State) : KeepsOutside s (e.run i s) := by
  cases e with
  | clean c => exact ⟨rfl, rfl, rfl, rfl⟩
  | midway c => exact (midFault_spec c i s).1.2.2.2
  | normal e => exact ⟨rfl, rfl, rfl, rfl⟩

/-- Without a fault the end is a normal one. -/
theorem normal_of_no_fault (h : (e.run i s).err = false) : ∃ n, e = normal n := by
  cases e with
  | clean c => exact absurd h (by simp [run])
  | midway c => exact absurd h (by simp [run])
  | normal n => exact ⟨n, rfl⟩

/-- Only a fault writes ERR. -/
theorem not_normal_of_fault (hs : s.err = false) (h : (e.run i s).err = true) : ∀ n, e ≠ normal n := by
  rintro n rfl
  exact Bool.false_ne_true (hs.symm.trans h)

theorem run_x (h : ∀ n, e ≠ normal n) : (e.run i s).x = s.x := by
  cases e with
  | clean c => rfl
  | midway c => exact midFault_x c i s
  | normal n => exact absurd rfl (h n)

theorem run_keepsXBut (h : e.Allowed i s) : KeepsXBut (resultRegs i) s (e.run i s) := by
  cases e with
  | clean c => exact fun _ _ => rfl
  | midway c => exact fun r _ => congrArg (·[r]) (midFault_x c i s)
  | normal n => exact h.regs

theorem run_mem_outside (h : e.Allowed i s) {a : Nat} (ha : ∀ q ∈ writeRanges i s, q.has a = false) :
    readByte (e.run i s).mem a = readByte s.mem a := by
  cases e with
  | clean c => rfl
  | midway c =>
    obtain ⟨-, -, hmem, -⟩ := midFault_spec c i s
    exact hmem a ha
  | normal n =>
    rcases h.range with hrange | ⟨-, hnone⟩
    · have hno := ha { base := n.dest, len := n.bytes.length } (hrange ▸ List.mem_singleton_self _)
      have houtside : ¬(n.dest ≤ a ∧ a < n.dest + n.bytes.length) := of_decide_eq_false hno
      exact readByte_writeBytes_other s.mem n.dest n.bytes a (by omega)
    · change readByte (writeBytes s.mem n.dest n.bytes) a = _
      rw [hnone, writeBytes_nil]

end CommandEnd

/-- Settles O6: none of the three ends leaves a command in progress or writes what is outside the core. -/
theorem everyCommandEndsIdle : Obligations.EveryCommandEndsIdle := by
  unfold Obligations.EveryCommandEndsIdle
  intro i s
  obtain ⟨e, -, hrun⟩ := exec_ends i s
  exact ⟨_, hrun, congrArg Option.isSome (e.run_running i s), e.run_keepsOutside i s⟩

/-- Settles O12: a normal end keeps the other registers, and a fault all of them. -/
theorem commandsWriteOnlyTheirResultRegisters : Obligations.CommandsWriteOnlyTheirResultRegisters := by
  unfold Obligations.CommandsWriteOnlyTheirResultRegisters
  intro i s t ht
  obtain ⟨e, hallowed, rfl⟩ := eq_run_of_exec ht
  exact ⟨e.run_keepsXBut hallowed, fun hs herr => e.run_x (e.not_normal_of_fault hs herr)⟩

/-- Settles O13: a normal end writes its one range, a fault in the accesses frees no other byte. -/
theorem commandsWriteOnlyTheirWriteRanges : Obligations.CommandsWriteOnlyTheirWriteRanges := by
  unfold Obligations.CommandsWriteOnlyTheirWriteRanges
  intro i s t ht a ha
  obtain ⟨e, hallowed, rfl⟩ := eq_run_of_exec ht
  exact e.run_mem_outside hallowed ha

/-- Settles O15: the end is normal, and such an end keeps the schedule of every other command. -/
theorem onlyBfInitWritesTheSchedule : Obligations.OnlyBfInitWritesTheSchedule := by
  unfold Obligations.OnlyBfInitWritesTheSchedule
  intro i s t hi _ ht herr
  obtain ⟨e, hallowed, rfl⟩ := eq_run_of_exec ht
  obtain ⟨n, rfl⟩ := e.normal_of_no_fault herr
  exact hallowed.blowfish hi

/-- Settles O16: a clean fault keeps all but STATUS; a fault in the accesses has one of the three codes. -/
theorem faultsLeaveTheRestUnchanged : Obligations.FaultsLeaveTheRestUnchanged := by
  unfold Obligations.FaultsLeaveTheRestUnchanged
  intro i s t hs ht herr
  obtain ⟨e, hallowed, rfl⟩ := eq_run_of_exec ht
  have hfault := e.not_normal_of_fault hs herr
  refine ⟨e.run_x hfault, e.run_keepsOutside i s, fun hcode => ?_, fun a ha => e.run_mem_outside hallowed ha, ?_⟩
  · cases e with
    | clean c => exact ⟨rfl, ⟨rfl, rfl⟩, rfl⟩
    | midway c =>
      obtain ⟨hchar, hblob, hbus⟩ := hcode
      have hentered : (midFault c i s).errcode = c.code := by simp [hs]
      rcases hallowed with rfl | rfl | rfl
      · exact absurd hentered hbus
      · exact absurd hentered hchar
      · exact absurd hentered hblob
    | normal n => exact absurd rfl (hfault n)
  · obtain ⟨_, ht', hblowfish, hmersenne⟩ := enginesShareNoState i s
    obtain rfl := Host.Outcome.next.inj (ht.symm.trans ht')
    exact ⟨fun hi => (hblowfish hi).1, fun hi => (hmersenne hi).1⟩

/-! ### What a command depends on -/

/-- The bytes of memory do not decide what a fault in the accesses leaves elsewhere. -/
theorem midFault_withMem (c : FaultCode) (i : Instr) (s : State) (m : Memory) :
    ∃ m', midFault c i { s with mem := m } = { midFault c i s with mem := m' } := by
  unfold midFault spoil
  cases engineOf i <;> exact ⟨_, rfl⟩

theorem CommandEnd.run_withMem (e : CommandEnd) (i : Instr) (s : State) (m : Memory) :
    ∃ m', e.run i { s with mem := m } = { e.run i s with mem := m' } := by
  cases e with
  | clean c => exact ⟨m, rfl⟩
  | midway c => exact midFault_withMem c i s m
  | normal n => exact ⟨_, rfl⟩

/-- A normal end's own bytes stand in its write range, whatever memory held. -/
theorem NormalEnd.run_written {n : NormalEnd} {i : Instr} {s : State} (h : n.Allowed i s) {m : Memory}
    (hs : Memory.wf s.mem = true) (hm : Memory.wf m = true) {q : Range} (hq : q ∈ writeRanges i s) {a : Nat}
    (ha : q.has a = true) : readByte (n.run { s with mem := m }).mem a = readByte (n.run s).mem a := by
  rcases h.range with hrange | ⟨hnone, -⟩
  · obtain rfl := List.mem_singleton.1 (hrange ▸ hq)
    obtain ⟨hlow, hhigh⟩ := of_decide_eq_true ha
    obtain ⟨k, rfl⟩ := Nat.exists_eq_add_of_le hlow
    have hk : k < n.bytes.length := by
      dsimp only at hhigh
      omega
    have hwritten {m : Memory} (hm : Memory.wf m = true) :
        readByte (writeBytes m n.dest n.bytes) (n.dest + k) = n.bytes[k] :=
      readByte_writeBytes_of_getElem? (List.getElem?_eq_getElem hk) h.room hm
    exact (hwritten hm).trans (hwritten hs).symm
  · exact absurd hq (hnone ▸ List.not_mem_nil)

/-- Settles O14: over both memories the command ends the same way, and a normal end's bytes are its own. -/
theorem commandsDependOnlyOnTheirReadRanges : Obligations.CommandsDependOnlyOnTheirReadRanges := by
  unfold Obligations.CommandsDependOnlyOnTheirReadRanges
  intro i s m hs hm halike
  obtain ⟨e, hallowed, hrun⟩ := execEndsAs i s
  obtain ⟨m', hm'⟩ := e.run_withMem i s m
  refine ⟨_, _, hrun s.mem fun _ _ _ _ => rfl, hrun m halike, ?_⟩
  have hwritten : (e.run i s).err = false → ∀ q ∈ writeRanges i s, ∀ a : Nat, q.has a = true →
      readByte (e.run i { s with mem := m }).mem a = readByte (e.run i s).mem a := fun herr q hq a ha => by
    obtain ⟨n, rfl⟩ := e.normal_of_no_fault herr
    exact n.run_written hallowed hs hm hq ha
  rw [hm'] at hwritten ⊢
  exact ⟨rfl, rfl, rfl, rfl, rfl, rfl, hwritten⟩

end Sys2Proof.Machine

/-! ## The step at a command's end (R26, R64, R225) -/

namespace Sys2Proof.Machine

/-- A legal command in progress whose time has come ends as its meaning says; a race is added to that. -/
theorem step_of_command {s u : State} {r : Running} {i : Instr} (hrun : s.running = some r) (hleft : r.left = 0)
    (hd : decode s.cmd = .ok i) (hu : exec i s = .next u) :
    step s = .next (if r.raced then afterRace i (openRanges i s) u else u) := by
  cases hraced : r.raced <;> simp [step, advance, endCommand, commandOf, hrun, hleft, hd, hu, hraced]

/-- Settles O5: without a race the end is the meaning itself. -/
theorem stepRunsTheCommandInProgress : Obligations.StepRunsTheCommandInProgress := by
  unfold Obligations.StepRunsTheCommandInProgress
  intro s r i hrun hleft hraced hd
  obtain ⟨u, hu⟩ := exec_isNext i s
  rw [step_of_command hrun hleft hd hu, hu, hraced]
  rfl

/-! ### Races (R64) -/

/-- Raced characters only widen what B64_DECODE may write (log entry 11). -/
theorem outside_writeRanges_of_openRanges {i : Instr} {s : State} {a : Nat}
    (h : ∀ q ∈ openRanges i s, q.has a = false) : ∀ q ∈ writeRanges i s, q.has a = false := by
  unfold openRanges at h
  split at h
  next hraced =>
    obtain ⟨rfl, -⟩ := hraced
    have hno := List.forall_mem_singleton.1 h
    have hwhole : ¬(s.x[0].toNat ≤ a ∧ a < s.x[0].toNat + decLen s.x[2].toNat) := of_decide_eq_false hno
    have hreach := decodeReach_le s
    refine List.forall_mem_singleton.2 (decide_eq_false ?_)
    dsimp only
    omega
  next => exact h

/-- Of the commands that load tables only MT_RESTORE loads a cursor. -/
theorem freeLoaded_cursor (t : Nat) {i : Instr} (h : i ≠ .mtRestore) (s : State) :
    (freeLoaded t i s).gen.mti = s.gen.mti := by
  by_cases harray : i = .mtSeedArray
  · rw [harray]
    rfl
  · obtain ⟨-, -, hgen⟩ := freeLoaded_spec t i s
    rw [hgen harray h]

/-- A race spoils no tables but those that the command loads (log entry 11). -/
theorem afterRace_tables (i : Instr) (rs : List Range) (s : State) :
    (i ≠ .bfInit → (afterRace i rs s).sched = s.sched) ∧
      (i ≠ .mtSeedArray → i ≠ .mtRestore → (afterRace i rs s).gen = s.gen) ∧
      (i ≠ .mtRestore → (afterRace i rs s).gen.mti = s.gen.mti) := by
  unfold afterRace
  dsimp only
  split_ifs
  · exact ⟨fun _ => rfl, fun _ _ => rfl, fun _ => rfl⟩
  · obtain ⟨-, hsched, hgen⟩ := freeLoaded_spec s.ticket i
      (freeResults s.ticket (resultRegs i) { s with mem := freeRanges s.ticket s.mem rs })
    exact ⟨hsched, hgen, fun hi => freeLoaded_cursor _ hi _⟩

theorem KeepsOutside.trans {s t u : State} (h : KeepsOutside s t) (h' : KeepsOutside t u) : KeepsOutside s u := by
  obtain ⟨hcfg, hcmd, hhost, hdata⟩ := h
  obtain ⟨hcfg', hcmd', hhost', hdata'⟩ := h'
  exact ⟨hcfg'.trans hcfg, hcmd'.trans hcmd, hhost'.trans hhost, hdata'.trans hdata⟩

/-- Settles O24: the race is `afterRace` of what the command leaves, and both keep what is outside the open ranges and
the results. -/
theorem raceSpoilsRangesResultsAndLoadedTables : Obligations.RaceSpoilsRangesResultsAndLoadedTables := by
  unfold Obligations.RaceSpoilsRangesResultsAndLoadedTables
  intro s u r i hrun hleft hraced hd hu
  have hstep := step_of_command hrun hleft hd hu
  rw [if_pos hraced] at hstep
  obtain ⟨e, hallowed, rfl⟩ := eq_run_of_exec hu
  obtain ⟨houtside, herr, hcode, hrunning, hkeyed, hx, hmem, hfault⟩ :=
    afterRace_spec i (openRanges i s) (e.run i s)
  obtain ⟨hsched, hgen, hcursor⟩ := afterRace_tables i (openRanges i s) (e.run i s)
  refine ⟨_, hstep, herr, hcode, ?_, (e.run_keepsOutside i s).trans houtside, ?_, ?_, hkeyed, ?_, ?_, hcursor⟩
  · rw [State.busy, hrunning, e.run_running]
    rfl
  · exact fun q hq => (hx q hq).trans (e.run_keepsXBut hallowed q hq)
  · exact fun a ha => (hmem a ha).trans (e.run_mem_outside hallowed (outside_writeRanges_of_openRanges ha))
  · rintro (h | h)
    · exact (hfault h).1
    · exact hsched h
  · rintro (h | ⟨h, h'⟩)
    · exact (hfault h).2
    · exact hgen h h'

/-! ### A running command ends (R225) -/

/-- Whatever its word, and raced or not, a command whose time has come ends. -/
theorem step_of_due {s : State} {r : Running} (hrun : s.running = some r) (hleft : r.left = 0) :
    ∃ t, step s = .next t ∧ t.running = none ∧ KeepsOutside s t := by
  cases hd : decode s.cmd with
  | error e => exact ⟨_, step_of_illegal_word hrun hleft hd, rfl, rfl, rfl, rfl, rfl⟩
  | ok i =>
    obtain ⟨e, -, hu⟩ := exec_ends i s
    have hstep := step_of_command hrun hleft hd hu
    refine ⟨_, hstep, ?_⟩
    cases r.raced
    · exact ⟨e.run_running i s, e.run_keepsOutside i s⟩
    · obtain ⟨houtside, -, -, hrunning, -⟩ := afterRace_spec i (openRanges i s) (e.run i s)
      exact ⟨hrunning.trans (e.run_running i s), (e.run_keepsOutside i s).trans houtside⟩

/-- A host that waits or has no move left changes nothing but the data it read, and its WAIT stays (R78). -/
theorem hostMove_of_waiting {s : State} (hbusy : s.busy = true) (hhost : s.host = [] ∨ ∃ rest, s.host = .wait :: rest) :
    ∃ d, hostMove s = { s with readData := d } := by
  rcases hhost with hnone | ⟨rest, hwait⟩
  · have hstays : hostMove s = s := by simp [hostMove, hnone]
    exact ⟨s.readData, hstays⟩
  · exact ⟨s.status, by simp [hostMove, hwait, hbusy, hostDo]⟩

/-- Such a step brings the command one move nearer to its end. -/
theorem step_of_waiting {s : State} {n : Nat} {raced input : Bool}
    (hrun : s.running = some { left := n + 1, raced := raced, inputRaced := input })
    (hhost : s.host = [] ∨ ∃ rest, s.host = .wait :: rest) :
    ∃ d, step s = .next
      { s with running := some { left := n, raced := raced, inputRaced := input }, readData := d } := by
  have htick : (tick s).running = some { left := n, raced := raced, inputRaced := input } := by
    rw [tick_running, hrun]
    rfl
  have hstep : step s = .next (hostMove (tick s)) := by simp [step, advance, hrun]
  obtain ⟨d, hmove⟩ := hostMove_of_waiting (s := tick s) (congrArg Option.isSome htick) hhost
  refine ⟨d, ?_⟩
  rw [hstep, hmove, htick]
  rfl

theorem run_succ_of_step {s t : State} (h : step s = .next t) (k : Nat) :
    Host.Core.run Sys2Proof.core (k + 1) s = Host.Core.run Sys2Proof.core k t := by
  have hstep : Sys2Proof.core.step s = .next t := h
  simp only [Host.Core.run, hstep]

/-- Settles O7: by induction on the moves left. -/
theorem runningCommandEventuallyEnds : Obligations.RunningCommandEventuallyEnds := by
  unfold Obligations.RunningCommandEventuallyEnds
  rintro s ⟨left, raced, input⟩ hrun hhost
  induction left generalizing s with
  | zero =>
    obtain ⟨t, hstep, hidle, -, hcmd, hhost', -⟩ := step_of_due hrun rfl
    exact ⟨t, run_succ_of_step hstep 0, congrArg Option.isSome hidle, hhost', hcmd⟩
  | succ n ih =>
    obtain ⟨d, hstep⟩ := step_of_waiting hrun hhost
    obtain ⟨t, ht, hidle, hhost', hcmd⟩ := ih { s with running := _, readData := d } rfl hhost
    exact ⟨t, (run_succ_of_step hstep _).trans ht, hidle, hhost', hcmd⟩

end Sys2Proof.Machine

/-! ## The invariant (R24, R32, R50, R195)

Every operation of the step keeps `Inv`: most of them by keeping ERR and ERRCODE and starting no command (`Inv.of_same`),
fault entry by its codes. -/

namespace Sys2Proof.Machine

theorem code_ne_zero (c : FaultCode) : c.code ≠ 0#8 := by cases c <;> decide

theorem code_le (c : FaultCode) : c.code.toNat ≤ 13 := by cases c <;> decide

theorem unseeded_cursor_le : (625#32 : Word).toNat ≤ 625 := by decide

/-- Operations that keep ERR and ERRCODE and start no command. -/
theorem Inv.of_same {s t : State} (h : Inv s) (hm : Memory.wf t.mem = true) (hcursor : t.gen.mti.toNat ≤ 625)
    (herr : t.err = s.err) (hcode : t.errcode = s.errcode) (hbusy : t.busy = true → s.busy = true) : Inv t where
  memWf := hm
  cursor := hcursor
  codeZero := by rw [hcode, herr, h.codeZero]
  codeRange := hcode ▸ h.codeRange
  busyClean := fun hb => herr.trans (h.busyClean (hbusy hb))

section
variable {s : State} (h : Inv s)
include h

/-- Fault entry records a code that is not 0, or keeps the first one, which was not 0 either. -/
theorem Inv.raise (c : FaultCode) : Inv (raise c s) where
  memWf := h.memWf
  cursor := h.cursor
  codeZero := by
    rw [raise_errcode, raise_err]
    cases herr : s.err with
    | false => simpa using code_ne_zero c
    | true => simpa [herr] using h.codeZero
  codeRange := by
    rw [raise_errcode]
    split
    · exact h.codeRange
    · exact code_le c
  busyClean := fun hb => absurd hb (by simp)

theorem Inv.spoil (i : Instr) (rs : List Range) : Inv (spoil i rs s) :=
  h.of_same (spoil_mem i rs s ▸ wf_freeRanges _ _ rs h.memWf) (spoil_cursor_le i rs s h.cursor) (spoil_err ..)
    (spoil_errcode ..) fun hb => by rwa [State.busy, spoil_running] at hb

theorem Inv.freeResults (t : Nat) (rs : List (Fin 8)) : Inv (freeResults t rs s) :=
  h.of_same h.memWf h.cursor rfl rfl id

theorem Inv.abort : Inv (abort s) := by
  unfold Machine.abort
  cases s.running with
  | none => exact h
  | some r =>
    cases commandOf s with
    | error e => exact h
    | ok i =>
      dsimp only
      split
      · exact (h.spoil i _).freeResults _ _
      · exact h.spoil i _

theorem Inv.hostFault (c : FaultCode) : Inv (hostFault c s) := h.abort.raise c

/-! ### A command's end -/

theorem Inv.run {i : Instr} {e : CommandEnd} (he : e.Allowed i s) : Inv (e.run i s) := by
  cases e with
  | clean c => exact h.raise c
  | midway c => exact (h.spoil i _).raise c
  | normal n => exact h.of_same (wf_writeBytes_of_inSpace he.room h.memWf) (he.cursor h.cursor) rfl rfl nofun

theorem freeLoaded_cursor_le (t : Nat) (i : Instr) : (freeLoaded t i s).gen.mti.toNat ≤ 625 := by
  by_cases hi : i = .mtRestore
  · rw [hi]
    exact freeCursor_le t
  · rw [freeLoaded_cursor t hi]
    exact h.cursor

theorem Inv.afterRace (i : Instr) (rs : List Range) : Inv (afterRace i rs s) := by
  have hmem : Inv { s with mem := freeRanges s.ticket s.mem rs } :=
    h.of_same (wf_freeRanges s.ticket s.mem rs h.memWf) h.cursor rfl rfl id
  have hfree := hmem.freeResults s.ticket (resultRegs i)
  unfold Machine.afterRace
  dsimp only
  split
  · exact hfree.of_same hfree.memWf hfree.cursor rfl rfl id
  · have hcursor := freeLoaded_cursor_le hfree s.ticket i
    rw [(freeLoaded_spec s.ticket i _).1] at hcursor ⊢
    exact hfree.of_same hfree.memWf hcursor rfl rfl id

theorem Inv.step_of_due {r : Running} (hrun : s.running = some r) (hleft : r.left = 0) {t : State}
    (ht : step s = .next t) : Inv t := by
  cases hd : decode s.cmd with
  | error e =>
    obtain rfl := Host.Outcome.next.inj ((step_of_illegal_word hrun hleft hd).symm.trans ht)
    exact h.raise _
  | ok i =>
    obtain ⟨e, he, hu⟩ := exec_ends i s
    obtain rfl := Host.Outcome.next.inj ((step_of_command hrun hleft hd hu).symm.trans ht)
    split
    · exact (h.run he).afterRace i _
    · exact h.run he

/-! ### The outside world's moves -/

theorem Inv.startCommand (herr : s.err = false) (w : Word) : Inv (startCommand w s) where
  memWf := h.memWf
  cursor := h.cursor
  codeZero := h.codeZero
  codeRange := h.codeRange
  busyClean := fun _ => herr

theorem Inv.windowWrite (off bytes : Nat) (v : Word) : Inv (windowWrite off bytes v s) := by
  have hx (r : Fin 8) : Inv (setX r v s) := h.of_same h.memWf h.cursor rfl rfl id
  unfold Machine.windowWrite
  split
  · split
    · exact h.hostFault _
    · exact h.hostFault _
    · split_ifs with hbusy herr
      · exact h.hostFault _
      · exact h
      · exact h.startCommand (Bool.eq_false_iff.2 herr) v
    · split
      · exact h.hostFault _
      · exact hx _
  · exact h.hostFault _

theorem Inv.readAny : Inv (readAny s) := h.of_same h.memWf h.cursor rfl rfl id

theorem Inv.windowRead (off bytes : Nat) : Inv (windowRead off bytes s) := by
  have hdata (d : Word) : Inv { s with readData := d } := h.of_same h.memWf h.cursor rfl rfl id
  unfold Machine.windowRead
  split
  · split
    · exact hdata _
    · exact hdata _
    · exact hdata _
    · split
      · exact h.readAny
      · exact hdata _
  · exact (h.hostFault _).readAny

theorem Inv.markRaced (input : Bool) : Inv (markRaced input s) :=
  h.of_same h.memWf h.cursor rfl rfl fun hb => by simpa [State.busy] using hb

theorem Inv.tick : Inv (tick s) :=
  h.of_same h.memWf h.cursor rfl rfl fun hb => by simpa [State.busy] using hb

theorem Inv.agentWrite (a : Word) (b : Byte) : Inv (agentWrite a b s) := by
  have hwritten : Inv { s with mem := writeByte s.mem a.toNat b } :=
    h.of_same (wf_writeByte s.mem a.toNat b a.isLt h.memWf) h.cursor rfl rfl id
  unfold Machine.agentWrite
  dsimp only
  split_ifs
  · exact hwritten.markRaced true
  · exact hwritten.markRaced false
  · exact hwritten

theorem Inv.agentRead (a : Word) : Inv (agentRead a s) := by
  unfold Machine.agentRead
  split
  · exact (h.markRaced false).readAny
  · exact h.of_same h.memWf h.cursor rfl rfl id

theorem Inv.resetCore : Inv (resetCore s) where
  memWf := h.abort.memWf
  cursor := unseeded_cursor_le
  codeZero := by simp [Machine.resetCore]
  codeRange := Nat.zero_le _
  busyClean := nofun

theorem Inv.hostDo (e : HostEvent) : Inv (hostDo e s) := by
  cases e with
  | busRead addr bytes =>
    rw [Machine.hostDo]
    split
    · exact h.windowRead _ _
    · exact h
  | busWrite addr bytes v =>
    rw [Machine.hostDo]
    split
    · exact h.windowWrite _ _ _
    · exact h
  | memRead a => exact h.agentRead a
  | memWrite a b => exact h.agentWrite a b
  | wait => exact h.of_same h.memWf h.cursor rfl rfl id
  | reset => exact h.resetCore

theorem Inv.hostMove : Inv (hostMove s) := by
  have hrest (rest : List HostEvent) : Inv { s with host := rest } := h.of_same h.memWf h.cursor rfl rfl id
  unfold Machine.hostMove
  split
  · exact h
  · split
    · exact h.hostDo .wait
    · exact (hrest _).hostDo .wait
  · exact (hrest _).hostDo _

end

/-- Settles O8: the end of a command and every move of the outside world keep the invariant. -/
theorem stepKeepsTheStateSound : Obligations.StepKeepsTheStateSound := by
  unfold Obligations.StepKeepsTheStateSound
  intro s t h ht
  cases hrun : s.running with
  | none =>
    have hstep : step s = .next (hostMove s) := by simp [step, advance, hrun]
    exact Host.Outcome.next.inj (hstep.symm.trans ht) ▸ h.hostMove
  | some r =>
    by_cases hleft : r.left = 0
    · exact h.step_of_due hrun hleft ht
    · have hstep : step s = .next (hostMove (tick s)) := by simp [step, advance, hrun, hleft]
      exact Host.Outcome.next.inj (hstep.symm.trans ht) ▸ h.tick.hostMove

/-- Settles O9: memory is empty, the cursor 625, and no fault is recorded. -/
theorem resetStateIsSound : Obligations.ResetStateIsSound := by
  unfold Obligations.ResetStateIsSound
  intro c
  exact ⟨rfl, unseeded_cursor_le, ⟨fun _ => rfl, fun _ => rfl⟩, Nat.zero_le _, nofun⟩

/-! ## STATUS as a number (R24) -/

/-- The four flags, in bits 3 to 0. -/
theorem flags_toNat (seeded keyed err busy : Bool) :
    (bitAt 3 seeded ||| bitAt 2 keyed ||| bitAt 1 err ||| bitAt 0 busy).toNat =
      8 * seeded.toNat + 4 * keyed.toNat + 2 * err.toNat + busy.toNat := by
  revert seeded keyed err busy
  decide

/-- Settles O18: the flags stay below bit 8, where ERRCODE begins. -/
theorem statusIsItsFields : Obligations.StatusIsItsFields := by
  unfold Obligations.StatusIsItsFields
  intro s
  have hflags := flags_toNat s.mtSeeded s.keyed s.err s.busy
  have hsmall : 8 * s.mtSeeded.toNat + 4 * s.keyed.toNat + 2 * s.err.toNat + s.busy.toNat < 2 ^ 8 := by
    have := Bool.toNat_le s.mtSeeded
    have := Bool.toNat_le s.keyed
    have := Bool.toNat_le s.err
    have := Bool.toNat_le s.busy
    omega
  have hcode : (s.errcode.setWidth 32 <<< 8).toNat = s.errcode.toNat <<< 8 := by
    have := s.errcode.isLt
    rw [BitVec.toNat_shiftLeft, BitVec.toNat_setWidth, Nat.shiftLeft_eq]
    omega
  calc s.status.toNat
    _ = (s.errcode.setWidth 32 <<< 8).toNat |||
        (bitAt 3 s.mtSeeded ||| bitAt 2 s.keyed ||| bitAt 1 s.err ||| bitAt 0 s.busy).toNat := by
      simp only [State.status, BitVec.toNat_or, Nat.or_assoc]
    _ = s.errcode.toNat <<< 8 + (8 * s.mtSeeded.toNat + 4 * s.keyed.toNat + 2 * s.err.toNat + s.busy.toNat) := by
      rw [hcode, hflags, Nat.shiftLeft_add_eq_or_of_lt hsmall]
    _ = _ := by
      rw [Nat.shiftLeft_eq]
      omega

end Sys2Proof.Machine

/-! ## The register window and reset (R22, R23, R25, R192, R215, R216)

A move that the host makes is `hostDo` of the machine one tick on (`moved`); a fault of it aborts what runs, by what
`abort_spec` says. -/

namespace Sys2Proof.Machine

/-! ### The host makes its move -/

/-- The machine as the host's move finds it: one move nearer the running command's end, the move taken off the list. -/
def moved (s : State) (rest : List HostEvent) : State := { tick s with host := rest }

theorem moved_of_idle {s : State} (hrun : s.running = none) (rest : List HostEvent) :
    moved s rest = { s with host := rest } := by
  have htick : tick s = s := by rw [tick, hrun, Option.map_none, ← hrun]
  rw [moved, htick]

theorem moved_busy (s : State) (rest : List HostEvent) : (moved s rest).busy = s.busy := Option.isSome_map

theorem moved_isRaced (s : State) (rest : List HostEvent) : isRaced (moved s rest) = isRaced s := by
  unfold isRaced moved tick
  cases s.running <;> rfl

theorem moved_inputRaced (s : State) (rest : List HostEvent) : inputRaced (moved s rest) = inputRaced s := by
  unfold inputRaced moved tick
  cases s.running <;> rfl

theorem moved_openRanges (i : Instr) (s : State) (rest : List HostEvent) :
    openRanges i (moved s rest) = openRanges i s := by
  have hwrites : writeRanges i (moved s rest) = writeRanges i s := by cases i <;> rfl
  rw [openRanges, openRanges, moved_inputRaced, hwrites]
  rfl

theorem step_of_hostMoves {s : State} {e : HostEvent} {rest : List HostEvent} (h : HostMoves s e rest)
    (he : e ≠ .wait) : step s = .next (hostDo e (moved s rest)) := by
  obtain ⟨hhost, hleft⟩ := h
  cases hrun : s.running with
  | none => rw [step_of_idle hrun hhost, moved_of_idle hrun]
  | some r =>
    have hmove : hostMove (tick s) = hostDo e (moved s rest) := by
      cases e with
      | wait => exact absurd rfl he
      | _ => simp [hostMove, hhost, moved]
    simp [step, advance, hrun, hleft r hrun, hmove]

/-! ### Aborts (R192) -/

/-- An illegal word has no ranges and no engine to spoil (log entry 21). -/
theorem abort_of_illegal {s : State} {e : DecodeError} (h : decode s.cmd = .error e) : abort s = s := by
  unfold abort commandOf
  rw [h]
  cases s.running <;> rfl

theorem hostFault_abortsCommand (c : FaultCode) (s : State) (rest : List HostEvent) :
    AbortsCommand c s (hostFault c (moved s rest)) := by
  obtain ⟨⟨hcfg, hcmd, -, -⟩, herr, hcode, hx, hlegal⟩ := abort_spec (moved s rest)
  rw [moved_isRaced] at hx
  refine ⟨hcfg, hcmd, rfl, rfl, ?_, hx, fun i hi => ?_, fun e he => ?_⟩
  · rw [hostFault, raise_errcode, herr, hcode]
    rfl
  · obtain ⟨hregs, hmem, hblowfish, hmersenne⟩ := hlegal i hi
    rw [moved_openRanges] at hmem
    exact ⟨hregs, hmem, hblowfish, hmersenne⟩
  · have habort : abort (moved s rest) = moved s rest := abort_of_illegal he
    rw [hostFault, habort]
    exact ⟨rfl, rfl, ⟨rfl, rfl⟩, rfl⟩

theorem hostFault_keepsOutside (c : FaultCode) (s : State) (rest : List HostEvent) :
    (hostFault c (moved s rest)).host = rest ∧ (hostFault c (moved s rest)).readData = s.readData := by
  obtain ⟨⟨-, -, hhost, hdata⟩, -⟩ := abort_spec (moved s rest)
  exact ⟨hhost, hdata⟩

/-! ### Accesses of each kind -/

section
variable {off bytes : Nat} {s : State}

theorem windowWrite_cmd_of_busy (hbusy : s.busy = true) (w : Word) :
    windowWrite 0 4 w s = hostFault .busyViolation s := by
  simp [windowWrite, goodAccess, windowReg, hbusy]

theorem windowWrite_cmd_of_idle (hbusy : s.busy = false) (w : Word) :
    windowWrite 0 4 w s = if s.err then s else startCommand w s := by
  simp [windowWrite, goodAccess, windowReg, hbusy]

theorem windowWrite_x_of_busy (hbusy : s.busy = true) (r : Fin 8) (v : Word) :
    windowWrite (0x10 + 4 * r.val) 4 v s = hostFault .busyViolation s := by
  simp [windowWrite, goodAccess_x, windowReg_x, hbusy]

theorem goodAccess_eq_false (h : bytes ≠ 4 ∨ off % 4 ≠ 0) : goodAccess off bytes = false :=
  decide_eq_false fun ⟨hwidth, hplace⟩ => h.elim (· hwidth) (· hplace)

theorem windowReg_reserved : ∀ off ∈ [0x08, 0x0C, 0x30, 0x34, 0x38, 0x3C], windowReg off = .reserved := by decide

/-- R22: the writes that are no write of CMD or an X register. -/
theorem windowWrite_bad (h : bytes ≠ 4 ∨ off % 4 ≠ 0 ∨ off ∈ [0x04, 0x08, 0x0C, 0x30, 0x34, 0x38, 0x3C]) (v : Word) :
    windowWrite off bytes v s = hostFault .hostAccess s := by
  cases hgood : goodAccess off bytes with
  | false => simp [windowWrite, hgood]
  | true =>
    obtain ⟨hwidth, hplace⟩ := of_decide_eq_true hgood
    have hreg : off ∈ [0x04, 0x08, 0x0C, 0x30, 0x34, 0x38, 0x3C] :=
      (h.resolve_left (absurd hwidth)).resolve_left (absurd hplace)
    rcases List.mem_cons.1 hreg with rfl | hreserved
    · simp [windowWrite, hgood, windowReg]
    · simp [windowWrite, hgood, windowReg_reserved off hreserved]

theorem windowRead_bad (h : bytes ≠ 4 ∨ off % 4 ≠ 0) : windowRead off bytes s = readAny (hostFault .hostAccess s) := by
  simp [windowRead, goodAccess_eq_false h]

theorem windowRead_reserved (h : off ∈ [0x08, 0x0C, 0x30, 0x34, 0x38, 0x3C]) :
    windowRead off 4 s = { s with readData := 0#32 } := by
  have hgood : goodAccess off 4 = true := decide_eq_true ⟨rfl, by fin_cases h <;> rfl⟩
  simp [windowRead, hgood, windowReg_reserved off h]

end

/-- CMD stands at the window's base itself, for a write as for a read (`hostDo_busRead_cmd`). -/
theorem hostDo_busWrite_cmd (s : State) (w : Word) : hostDo (.busWrite s.cfg.coreBase 4 w) s = windowWrite 0 4 w s := by
  have hwrite := hostDo_busWrite_at (off := 0) (by decide) s 4 w
  rwa [BitVec.add_zero] at hwrite

/-- Settles O20: the write is that of CMD at offset 0, while idle or while BUSY; the read returns CMD. -/
theorem cmdWriteStartsIgnoresOrViolates : Obligations.CmdWriteStartsIgnoresOrViolates := by
  unfold Obligations.CmdWriteStartsIgnoresOrViolates
  intro s w rest
  have hwrite : hostDo (.busWrite s.cfg.coreBase 4 w) (moved s rest) = windowWrite 0 4 w (moved s rest) :=
    hostDo_busWrite_cmd (moved s rest) w
  have hidle (hrun : s.running = none) : hostDo (.busWrite s.cfg.coreBase 4 w) (moved s rest) =
      if s.err then { s with host := rest } else startCommand w { s with host := rest } := by
    rw [hwrite, windowWrite_cmd_of_idle ((moved_busy s rest).trans (busy_of_idle hrun)), moved_of_idle hrun]
  refine ⟨fun h hrun herr => ⟨Config.latency s.ticket, ?_⟩, fun h hrun herr => ?_,
    fun h hbusy => ⟨_, step_of_hostMoves h nofun, ?_⟩, fun h => ⟨_, step_of_hostMoves h nofun, ?_⟩⟩
  · rw [step_of_hostMoves h nofun, hidle hrun, herr]
    rfl
  · rw [step_of_hostMoves h nofun, hidle hrun, if_pos herr]
  · rw [hwrite, windowWrite_cmd_of_busy ((moved_busy s rest).trans hbusy)]
    exact ⟨(hostFault_keepsOutside _ s rest).1, hostFault_abortsCommand _ s rest⟩
  · have hread : hostDo (.busRead s.cfg.coreBase 4) (moved s rest) = { moved s rest with readData := s.cmd } :=
      hostDo_busRead_cmd (moved s rest)
    rw [hread]
    exact ⟨rfl, rfl, rfl⟩

/-- Settles O21: the write and the read of Xi on an idle machine, and the write while BUSY. -/
theorem hostWritesOperandsOnlyWhileIdle : Obligations.HostWritesOperandsOnlyWhileIdle := by
  unfold Obligations.HostWritesOperandsOnlyWhileIdle
  intro s r v rest
  refine ⟨fun h hrun => ?_, fun h hbusy => ⟨_, step_of_hostMoves h nofun, ?_⟩, fun h hrun => ?_⟩
  · rw [step_of_idle hrun h.1]
    exact congrArg Host.Outcome.next (hostDo_regWrite_of_idle (s := { s with host := rest }) hrun r v)
  · have hwrite : hostDo (regWrite s.cfg.coreBase r.val v) (moved s rest) =
        windowWrite (0x10 + 4 * r.val) 4 v (moved s rest) := hostDo_busWrite_at (by omega) (moved s rest) 4 v
    rw [hwrite, windowWrite_x_of_busy ((moved_busy s rest).trans hbusy)]
    exact ⟨(hostFault_keepsOutside _ s rest).1, hostFault_abortsCommand _ s rest⟩
  · rw [step_of_idle hrun h.1]
    exact congrArg Host.Outcome.next (hostDo_busRead_x_of_idle (s := { s with host := rest }) hrun r)

/-- With no command in progress a fault of the access writes STATUS alone (R195). -/
theorem hostFault_of_idle {s : State} (hrun : s.running = none) (c : FaultCode) (rest : List HostEvent) :
    hostFault c (moved s rest) =
      { s with host := rest, err := true, errcode := (if s.err then s.errcode else c.code) } := by
  rw [moved_of_idle hrun, hostFault, abort_of_idle (s := { s with host := rest }) hrun, raise, ← hrun]

/-- Settles O22: each kind of access is one branch of the window's. -/
theorem badWindowAccessesRaiseHostAccess : Obligations.BadWindowAccessesRaiseHostAccess := by
  unfold Obligations.BadWindowAccessesRaiseHostAccess
  intro s off bytes v rest hoff _
  have hwrite : hostDo (.busWrite (s.cfg.coreBase + BitVec.ofNat 32 off) bytes v) (moved s rest) =
      windowWrite off bytes v (moved s rest) := hostDo_busWrite_at hoff (moved s rest) bytes v
  have hread : hostDo (.busRead (s.cfg.coreBase + BitVec.ofNat 32 off) bytes) (moved s rest) =
      windowRead off bytes (moved s rest) := hostDo_busRead_at hoff (moved s rest) bytes
  obtain ⟨hhost, hdata⟩ := hostFault_keepsOutside .hostAccess s rest
  have haborts := hostFault_abortsCommand .hostAccess s rest
  refine ⟨fun h hbad => ?_, fun h hbad => ?_, fun h hwidth hreserved => ?_⟩
  · rw [step_of_hostMoves h nofun, hwrite, windowWrite_bad hbad]
    exact ⟨fun hrun => congrArg Host.Outcome.next (hostFault_of_idle hrun _ rest),
      fun _ => ⟨_, rfl, hhost, hdata, haborts⟩⟩
  · rw [step_of_hostMoves h nofun, hread, windowRead_bad hbad]
    refine ⟨fun hrun => ⟨Config.freeWord s.ticket .readData, ?_⟩, fun _ => ⟨_, rfl, hhost, haborts⟩⟩
    rw [hostFault_of_idle hrun]
    rfl
  · subst hwidth
    rw [step_of_hostMoves h nofun, hread, windowRead_reserved hreserved]
    refine ⟨fun hrun => ?_, fun hbusy => ⟨_, rfl, rfl, (moved_busy s rest).trans hbusy, rfl, rfl, rfl⟩⟩
    rw [moved_of_idle hrun]

/-! ### Reset (R215, R216) -/

/-- Settles O23: the values are those that `resetCore` writes, and memory is as the abort leaves it. -/
theorem resetAbortsAndClears : Obligations.ResetAbortsAndClears := by
  unfold Obligations.ResetAbortsAndClears
  intro s rest h
  obtain ⟨⟨hcfg, -, hhost, -⟩, -, -, -, hlegal⟩ := abort_spec (moved s rest)
  have hstatus : (resetCore (moved s rest)).status = 0#32 := status_eq_zero rfl rfl rfl rfl rfl
  have hmem : (hostDo .reset (moved s rest)).mem = (abort (moved s rest)).mem := rfl
  have hregs (r : Fin 8) : (resetCore (moved s rest)).x[r] = 0#32 := Vector.getElem_replicate r.isLt
  refine ⟨_, step_of_hostMoves h nofun, rfl, hstatus, hregs, rfl, rfl, rfl, hcfg, hhost, fun hrun => ?_,
    fun i hi a ha => ?_, fun e he => ?_⟩
  · have habort : abort (moved s rest) = moved s rest := by
      rw [moved_of_idle hrun]
      exact abort_of_idle hrun
    rw [hmem, habort]
    rfl
  · obtain ⟨-, houtside, -⟩ := hlegal i hi
    rw [moved_openRanges] at houtside
    exact houtside a ha
  · rw [hmem, abort_of_illegal (s := moved s rest) he]
    rfl

end Sys2Proof.Machine

/-! ## B64_DECODE group by group (R105 to R107)

The padded characters are a list of whole groups; past its first `g` groups, all legal, the decoding goes on with the
rest of the list (`decGroups_after`). The count, the kept bytes and the first illegal group are read off that. -/

namespace Sys2Proof.Machine

/-! ### Groups of characters -/

/-- The characters of `n` groups. -/
def groupChars (c : Nat → Byte) (n : Nat) : List Byte := (List.range (4 * n)).map c

/-- Group `g` of the `n` is legal, as the decoder tests it. -/
def legalAt (c : Nat → Byte) (n g : Nat) : Bool :=
  legalGroup (decide (g + 1 = n)) (c (4 * g)) (c (4 * g + 1)) (c (4 * g + 2)) (c (4 * g + 3))

/-- The bytes that group `g` keeps. -/
def decGroupAt (c : Nat → Byte) (g : Nat) : List Byte :=
  decGroup (c (4 * g)) (c (4 * g + 1)) (c (4 * g + 2)) (c (4 * g + 3))

/-- The characters from group `g` on. -/
def charsFrom (c : Nat → Byte) (g i : Nat) : Byte := c (4 * g + i)

theorem groupChars_succ (c : Nat → Byte) (n : Nat) :
    groupChars c (n + 1) = c 0 :: c 1 :: c 2 :: c 3 :: groupChars (charsFrom c 1) n := by
  rw [groupChars, Nat.mul_succ, Nat.add_comm, List.range_add, List.map_append, List.map_map]
  rfl

theorem groupChars_isEmpty (c : Nat → Byte) (n : Nat) : (groupChars c n).isEmpty = decide (0 + 1 = n + 1) := by
  cases n with
  | zero => rfl
  | succ n => simp [groupChars_succ]

theorem decGroups_groupChars_succ (c : Nat → Byte) (n : Nat) : decGroups (groupChars c (n + 1)) =
    if legalAt c (n + 1) 0 then
      (decGroupAt c 0 ++ (decGroups (groupChars (charsFrom c 1) n)).1, (decGroups (groupChars (charsFrom c 1) n)).2)
    else ([], false) := by
  rw [groupChars_succ, decGroups, groupChars_isEmpty]
  rfl

/-- Group `h` from group `g` on is group `g + h`. -/
theorem legalAt_charsFrom (c : Nat → Byte) (g n h : Nat) :
    legalAt (charsFrom c g) n h = legalAt c (g + n) (g + h) := by
  have hplace (k : Nat) : 4 * g + (4 * h + k) = 4 * (g + h) + k := by omega
  have hfinal : (h + 1 = n) = (g + h + 1 = g + n) := by rw [Nat.add_assoc, Nat.add_right_inj]
  simp only [legalAt, charsFrom, hfinal, hplace, ← Nat.mul_add]

theorem charsFrom_charsFrom (c : Nat → Byte) (g h : Nat) : charsFrom (charsFrom c g) h = charsFrom c (g + h) := by
  funext i
  rw [charsFrom, charsFrom, charsFrom, Nat.mul_add, Nat.add_assoc]

theorem length_decGroupAt_of_legal {c : Nat → Byte} {n g : Nat} (h : legalAt c n g = true) (hn : g + 1 ≠ n) :
    (decGroupAt c g).length = 3 := by
  rw [legalAt, decide_eq_false hn] at h
  exact length_decGroup_of_legal h

/-- Past legal groups that are not the final one, the decoding goes on with three bytes for each. -/
theorem decGroups_after {c : Nat → Byte} {g n : Nat} (hlegal : ∀ h < g, legalAt c (g + (n + 1)) h = true) :
    ∃ pre : List Byte, pre.length = 3 * g ∧ decGroups (groupChars c (g + (n + 1))) =
      (pre ++ (decGroups (groupChars (charsFrom c g) (n + 1))).1, (decGroups (groupChars (charsFrom c g) (n + 1))).2) := by
  induction g generalizing c with
  | zero =>
    have hsame : charsFrom c 0 = c := by
      funext i
      rw [charsFrom, Nat.mul_zero, Nat.zero_add]
    exact ⟨[], rfl, by rw [hsame, Nat.zero_add]; rfl⟩
  | succ g ih =>
    have hcount : g + 1 + (n + 1) = g + (n + 1) + 1 := by omega
    rw [hcount] at hlegal ⊢
    have hrest : ∀ h < g, legalAt (charsFrom c 1) (g + (n + 1)) h = true := fun h hh => by
      rw [legalAt_charsFrom, Nat.add_comm 1, Nat.add_comm 1]
      exact hlegal (h + 1) (by omega)
    obtain ⟨pre, hpre, hdec⟩ := ih hrest
    have hfirst := hlegal 0 (by omega)
    refine ⟨decGroupAt c 0 ++ pre, ?_, ?_⟩
    · rw [List.length_append, length_decGroupAt_of_legal hfirst (by omega), hpre, Nat.mul_succ, Nat.add_comm]
    · rw [decGroups_groupChars_succ, if_pos hfirst, hdec, charsFrom_charsFrom, Nat.add_comm 1, List.append_assoc]

/-- The first illegal group ends the decoding (R107). -/
theorem decGroups_of_illegal {c : Nat → Byte} {n g : Nat} (hg : g < n) (hlegal : ∀ h < g, legalAt c n h = true)
    (hillegal : legalAt c n g = false) :
    (decGroups (groupChars c n)).1.length = 3 * g ∧ (decGroups (groupChars c n)).2 = false := by
  obtain ⟨k, rfl⟩ : ∃ k, n = g + (k + 1) := ⟨n - g - 1, by omega⟩
  obtain ⟨pre, hpre, hdec⟩ := decGroups_after hlegal
  have hstop : legalAt (charsFrom c g) (k + 1) 0 = false := by rwa [legalAt_charsFrom]
  have hend : decGroups (groupChars (charsFrom c g) (k + 1)) = ([], false) := by
    rw [decGroups_groupChars_succ, hstop]
    rfl
  rw [hdec, hend]
  exact ⟨by simpa using hpre, rfl⟩

/-! ### All groups legal -/

section
variable {c : Nat → Byte} {n : Nat} (hlegal : ∀ h < n, legalAt c n h = true)
include hlegal

/-- The final group's bytes stand last. -/
theorem decGroups_final {g : Nat} (hn : g + 1 = n) : ∃ pre : List Byte, pre.length = 3 * g ∧
    decGroups (groupChars c n) = (pre ++ decGroupAt c g, true) := by
  subst hn
  obtain ⟨pre, hpre, hdec⟩ := decGroups_after (g := g) (n := 0) (fun h hh => hlegal h (by omega))
  have hlast : legalAt (charsFrom c g) 1 0 = true := by
    rw [legalAt_charsFrom]
    exact hlegal g (by omega)
  have hend : decGroups (groupChars (charsFrom c g) 1) = (decGroupAt c g ++ [], true) := by
    rw [decGroups_groupChars_succ, hlast]
    rfl
  exact ⟨pre, hpre, by rw [hdec, hend, List.append_nil]⟩

/-- Byte `k` of group `g`. -/
theorem getElem?_decGroups {g k : Nat} (hg : g < n) (hk : k < 3) :
    (decGroups (groupChars c n)).1[3 * g + k]? = (decGroupAt c g)[k]? := by
  by_cases hn : g + 1 = n
  · obtain ⟨pre, hpre, hdec⟩ := decGroups_final hlegal hn
    rw [hdec, List.getElem?_append_right (by omega), hpre, Nat.add_sub_cancel_left]
  · obtain ⟨m, rfl⟩ : ∃ m, n = g + (m + 1) := ⟨n - g - 1, by omega⟩
    obtain ⟨pre, hpre, hdec⟩ := decGroups_after (fun h hh => hlegal h (by omega))
    have hnext : legalAt (charsFrom c g) (m + 1) 0 = true := by
      rw [legalAt_charsFrom]
      exact hlegal g hg
    have hfull := length_decGroupAt_of_legal (hlegal g hg) hn
    have hsame : decGroupAt (charsFrom c g) 0 = decGroupAt c g := rfl
    rw [hdec, List.getElem?_append_right (by omega), hpre, Nat.add_sub_cancel_left, decGroups_groupChars_succ,
      if_pos hnext, hsame, List.getElem?_append_left (by omega)]

end

/-! ### The sextets of a group as bytes -/

/-- R107's formulas for the three bytes of a group, bit by bit. -/
theorem bytes_of_sextets (a b c d : BitVec 6) :
    (a ++ b ++ c ++ d).extractLsb' 16 8 = (a.setWidth 8 <<< 2) ||| (b.setWidth 8 >>> 4) ∧
    (a ++ b ++ c ++ d).extractLsb' 8 8 = (b.setWidth 8 <<< 4) ||| (c.setWidth 8 >>> 2) ∧
    (a ++ b ++ c ++ d).extractLsb' 0 8 = (c.setWidth 8 <<< 6) ||| d.setWidth 8 := by
  refine ⟨?_, ?_, ?_⟩ <;>
    (ext i hi
     rw [BitVec.getElem_extractLsb', BitVec.getLsbD_append, BitVec.getLsbD_append, BitVec.getLsbD_append]
     interval_cases i <;> simp)

/-- A byte that a group keeps is that of the formulas. -/
theorem getElem?_decGroup {q0 q1 q2 q3 b : Byte} {k : Nat} (h : (decGroup q0 q1 q2 q3)[k]? = some b) :
    [((sextetOf q0).setWidth 8 <<< 2) ||| ((sextetOf q1).setWidth 8 >>> 4),
      ((sextetOf q1).setWidth 8 <<< 4) ||| ((sextetOf q2).setWidth 8 >>> 2),
      ((sextetOf q2).setWidth 8 <<< 6) ||| (sextetOf q3).setWidth 8][k]? = some b := by
  obtain ⟨h0, h1, h2⟩ := bytes_of_sextets (sextetOf q0) (sextetOf q1) (sextetOf q2) (sextetOf q3)
  rw [← h0, ← h1, ← h2]
  obtain ⟨hk, hb⟩ := List.getElem?_eq_some_iff.1 h
  simp only [decGroup, List.getElem_take] at hb
  exact List.getElem?_eq_some_iff.2 ⟨_, hb⟩

/-! ### The source of the command -/

/-- R105: the source, `=` after its end, in whole groups. -/
theorem padTo4_sourceBytes (s : State) : padTo4 (sourceBytes s) = groupChars (charAt s) (groupCount s) := by
  have hlen : (padTo4 (sourceBytes s)).length = 4 * groupCount s := by
    rw [length_padTo4, length_sourceBytes]
    rfl
  refine List.ext_getElem (by rw [hlen, groupChars, List.length_map, List.length_range]) fun i hi _ => ?_
  simp only [groupChars, List.getElem_map, List.getElem_range, charAt]
  by_cases h : i < (sourceBytes s).length
  · rw [if_pos (length_sourceBytes s ▸ h)]
    exact (List.getElem_append_left h).trans (getElem_readBytes ..)
  · rw [if_neg (length_sourceBytes s ▸ h)]
    exact (List.getElem_append_right (Nat.le_of_not_lt h)).trans (List.getElem_replicate ..)

theorem b64Decode_sourceBytes (s : State) :
    b64Decode (sourceBytes s) = decGroups (groupChars (charAt s) (groupCount s)) := by
  rw [b64Decode, padTo4_sourceBytes]

/-- A character of the alphabet is one that INV maps to a sextet (R101). -/
theorem alphabetChar_iff (c : Byte) : AlphabetChar c ↔ isData c = true := by
  constructor
  · rintro ⟨v, rfl⟩
    exact isData_alpha v
  · intro h
    unfold isData at h
    split at h
    next v hv => exact ⟨v, (inv_eq_data_iff c v).1 hv⟩
    next => exact nomatch h
    next => exact nomatch h

theorem groupLegalAt_iff (s : State) (g : Nat) :
    GroupLegalAt s g ↔ legalAt (charAt s) (groupCount s) g = true := by
  simp only [GroupLegalAt, GroupLegal, legalAt, legalGroup, alphabetChar_iff, padChar, Bool.and_eq_true, Bool.or_eq_true,
    decide_eq_true_eq, beq_iff_eq, and_assoc, or_assoc]

theorem groupLegalAt_eq_false {s : State} {g : Nat} (h : ¬ GroupLegalAt s g) :
    legalAt (charAt s) (groupCount s) g = false :=
  Bool.eq_false_iff.2 (mt (groupLegalAt_iff s g).2 h)

/-- Legal groups decode to as many bytes as R107 counts. -/
theorem b64Decode_legal {s : State} (hlegal : ∀ g < groupCount s, GroupLegalAt s g) :
    (b64Decode (sourceBytes s)).1.length = decodedCount s ∧ (b64Decode (sourceBytes s)).2 = true := by
  rw [b64Decode_sourceBytes, decodedCount]
  by_cases hn : s.x[2].toNat = 0
  · have hnone : groupCount s = 0 := by
      rw [groupCount]
      omega
    rw [hnone, if_pos hn]
    exact ⟨rfl, rfl⟩
  · obtain ⟨g, hg⟩ : ∃ g, groupCount s = g + 1 := ⟨groupCount s - 1, by rw [groupCount]; omega⟩
    obtain ⟨pre, hpre, hdec⟩ := decGroups_final (fun h hh => (groupLegalAt_iff s h).1 (hlegal h hh)) hg.symm
    have hq2 : 4 * groupCount s - 2 = 4 * g + 2 := by omega
    have hq3 : 4 * groupCount s - 1 = 4 * g + 3 := by omega
    rw [if_neg hn, hdec, List.length_append, hpre, decGroupAt, length_decGroup, hq2, hq3, padChar, hg]
    refine ⟨?_, rfl⟩
    split_ifs <;> omega

theorem decodedCount_le {s : State} (hlegal : ∀ g < groupCount s, GroupLegalAt s g) :
    decodedCount s ≤ decLen s.x[2].toNat := by
  have hle := length_b64Decode_le (sourceBytes s)
  rwa [(b64Decode_legal hlegal).1, length_sourceBytes] at hle

/-- Memory after the decoding: byte `k` of group `g`, where it is kept. -/
theorem readByte_decoded {s : State} (hlegal : ∀ g < groupCount s, GroupLegalAt s g)
    (hspace : InSpace s.x[0].toNat (decLen s.x[2].toNat)) (hm : Memory.wf s.mem = true) {g k : Nat} (hk : k < 3)
    (hkept : 3 * g + k < decodedCount s) {b : Byte}
    (hb : [((sextetOf (charAt s (4 * g))).setWidth 8 <<< 2) ||| ((sextetOf (charAt s (4 * g + 1))).setWidth 8 >>> 4),
      ((sextetOf (charAt s (4 * g + 1))).setWidth 8 <<< 4) ||| ((sextetOf (charAt s (4 * g + 2))).setWidth 8 >>> 2),
      ((sextetOf (charAt s (4 * g + 2))).setWidth 8 <<< 6) ||| (sextetOf (charAt s (4 * g + 3))).setWidth 8][k]? =
        some b) :
    readByte (writeBytes s.mem s.x[0].toNat (b64Decode (sourceBytes s)).1) (s.x[0].toNat + (3 * g + k)) = b := by
  obtain ⟨hcount, -⟩ := b64Decode_legal hlegal
  have hlimit := decodedCount_le hlegal
  have hg : g < groupCount s := by
    rw [decLen] at hlimit
    rw [groupCount]
    omega
  have hwritten : (b64Decode (sourceBytes s)).1[3 * g + k]? = some b := by
    have hin := List.getElem?_eq_getElem (hcount.symm ▸ hkept : 3 * g + k < (b64Decode (sourceBytes s)).1.length)
    have hgroup := getElem?_decGroups (fun h hh => (groupLegalAt_iff s h).1 (hlegal h hh)) hg hk
    rw [← b64Decode_sourceBytes, hin] at hgroup
    rw [hin, ← getElem?_decGroup hgroup.symm, hb]
  exact readByte_writeBytes_of_getElem? hwritten (hspace.mono (hcount ▸ hlimit)) hm

/-- Settles O33: the command stores the decoding of its groups, whose bytes `readByte_decoded` gives. -/
theorem decodeWritesTheKeptBytes : Obligations.DecodeWritesTheKeptBytes := by
  unfold Obligations.DecodeWritesTheKeptBytes
  rintro s _ _ _ rfl rfl rfl hranges hread hlegal hwrite hm
  obtain ⟨hcount, htrue⟩ := b64Decode_legal hlegal
  have hend : b64DecodeCmd s = _ := b64DecodeCmd_legal hranges hread (Prod.ext rfl htrue) (by rwa [hcount])
  rw [hcount] at hend
  have hwrites := storeAndReturn_writesXAndRange (b64Decode (sourceBytes s)).1 (BitVec.ofNat 32 (decodedCount s)) s
  rw [hcount] at hwrites
  have hfit : decodedCount s < 2 ^ 32 := (decodedCount_le hlegal).trans_lt (decLen_lt s.x[2])
  refine ⟨_, rfl, ?_⟩
  rw [hend]
  refine ⟨hwrites, ?_, ?_⟩
  · rw [storeAndReturn_x0, BitVec.toNat_ofNat, Nat.mod_eq_of_lt hfit]
  · rintro g _ _ _ _ rfl rfl rfl rfl
    have hbyte {k : Nat} (hk : k < 3) (hkept : 3 * g + k < decodedCount s) {b : Byte} :=
      readByte_decoded hlegal hranges.2.1 hm hk hkept (b := b)
    exact ⟨fun hkept => hbyte (k := 0) (by decide) hkept rfl, fun hkept => hbyte (k := 1) (by decide) hkept rfl,
      fun hkept => hbyte (k := 2) (by decide) hkept rfl⟩

/-! ### Faults of B64_DECODE (R107) -/

/-- What a fault frees, where the destination written is at most `len` bytes. -/
theorem midFault_b64Decode {s : State} {len : Nat} (c : FaultCode) (h : decodeReach s ≤ len) :
    FaultsInMemory c { base := s.x[0].toNat, len := len } s (midFault c .b64Decode s) ∧
      KeepsBlowfish s (midFault c .b64Decode s) ∧ KeepsMersenne s (midFault c .b64Decode s) := by
  refine midFault_faultsInRange (by decide) (by decide) fun r hr a ha => ?_
  obtain rfl : r = { base := s.x[0].toNat, len := decodeReach s } := List.mem_singleton.1 hr
  have houtside : ¬(s.x[0].toNat ≤ a ∧ a < s.x[0].toNat + len) := of_decide_eq_false ha
  refine decide_eq_false ?_
  dsimp only
  omega

section
variable {s : State} (hranges : DecodeRangesOk s)
include hranges

theorem b64DecodeCmd_refused (h : Refuses s s.x[1].toNat s.x[2].toNat false ∨
    Refuses s s.x[0].toNat (b64Decode (sourceBytes s)).1.length true) :
    b64DecodeCmd s = midFault .busError .b64Decode s := by
  rw [b64DecodeCmd_eq_recode, recode_of_rangesOk hranges, recodeChecked_refused h]

theorem b64DecodeCmd_illegal (hread : Readable s s.x[1].toNat s.x[2].toNat)
    (hwrite : ∀ k < (b64Decode (sourceBytes s)).1.length, memAdmit s.cfg (s.x[0].toNat + k) true = true)
    (hillegal : (b64Decode (sourceBytes s)).2 = false) : b64DecodeCmd s = midFault .badB64Char .b64Decode s := by
  rw [b64DecodeCmd_eq_recode, recode_of_rangesOk hranges, recodeChecked_admitted hread.2 hwrite, hillegal]
  rfl

end

/-- Settles O34: each clause is one branch of the command; an illegal group ends the decoding after three bytes for
each group before it. -/
theorem decodeFaultsOnRangesAndIllegalGroups : Obligations.DecodeFaultsOnRangesAndIllegalGroups := by
  unfold Obligations.DecodeFaultsOnRangesAndIllegalGroups
  rintro s _ _ _ rfl rfl rfl
  refine ⟨fun hbad => ⟨_, rfl, ?_⟩, fun hranges hrefuses => ⟨_, rfl, ?_⟩,
    fun hranges hread hlegal hrefuses => ⟨_, rfl, ?_⟩, fun g hranges hread hg hlegal hillegal => ?_⟩
  · rw [b64DecodeCmd_eq_recode, recode_badRanges hbad]
    exact raise_faultsCleanly .badBuffer s
  · rw [b64DecodeCmd_refused hranges (.inl hrefuses)]
    exact midFault_b64Decode .busError (decodeReach_le s)
  · obtain ⟨hcount, -⟩ := b64Decode_legal hlegal
    rw [b64DecodeCmd_refused hranges (.inr (by rwa [hcount]))]
    exact midFault_b64Decode .busError (by rw [decodeReach_of_admits hread.2, hcount])
  · obtain ⟨hcount, hfalse⟩ := decGroups_of_illegal hg (fun h hh => (groupLegalAt_iff s h).1 (hlegal h hh))
      (groupLegalAt_eq_false hillegal)
    rw [← b64Decode_sourceBytes] at hcount hfalse
    refine ⟨fun hrefuses => ⟨_, rfl, ?_⟩, fun hwrite => ⟨_, rfl, ?_⟩⟩
    · rw [b64DecodeCmd_refused hranges (.inr (by rwa [hcount]))]
      exact midFault_b64Decode .busError (decodeReach_le s)
    · rw [b64DecodeCmd_illegal hranges hread (by rwa [hcount]) hfalse]
      exact midFault_b64Decode .badB64Char (decodeReach_le s)

end Sys2Proof.Machine

/-! ## Rounding, the saved engine, and equal engines (R14, R175, R176) -/

namespace Sys2Proof.Machine

/-! ### Rounding to nearest, ties to even (R14) -/

/-- A quotient is rounded down only up to the middle. -/
theorem le_roundDiv_mul (a : Nat) {b : Nat} (hb : 0 < b) : 2 * a ≤ 2 * (roundDiv a b * b) + b := by
  have hdiv : b * (a / b) + a % b = a := Nat.div_add_mod a b
  have hrest : a % b < b := Nat.mod_lt a hb
  have hup : (a / b + 1) * b = b * (a / b) + b := by ring
  have hdown : a / b * b = b * (a / b) := Nat.mul_comm _ _
  unfold roundDiv
  dsimp only
  split_ifs <;> omega

/-- Off by half of the divisor, the quotient is even. -/
theorem roundDiv_even_of_tie {a b : Nat} (hb : 0 < b)
    (h : 2 * (roundDiv a b * b - a) = b ∨ 2 * (a - roundDiv a b * b) = b) : roundDiv a b % 2 = 0 := by
  have hdiv : b * (a / b) + a % b = a := Nat.div_add_mod a b
  have hrest : a % b < b := Nat.mod_lt a hb
  have hup : (a / b + 1) * b = b * (a / b) + b := by ring
  have hdown : a / b * b = b * (a / b) := Nat.mul_comm _ _
  unfold roundDiv at h ⊢
  dsimp only at h ⊢
  split_ifs at h ⊢ <;> omega

theorem roundDiv_excessBits_le (prec n : Nat) : roundDiv n (2 ^ excessBits prec n) ≤ 2 ^ prec :=
  (roundDiv_bounds _ _).2.trans (Nat.div_lt_of_lt_mul (Nat.mul_comm _ _ ▸ lt_pow_excessBits prec n))

/-- Settles O53: the significand is the rounded quotient by `2 ^ excessBits`. -/
theorem roundingIsToNearestEven : Obligations.RoundingIsToNearestEven := by
  unfold Obligations.RoundingIsToNearestEven
  intro prec n hprec
  have hupper := roundSig_le prec n
  have hlower : 2 * n ≤ 2 * roundSig prec n + 2 ^ excessBits prec n := le_roundDiv_mul n (Nat.two_pow_pos _)
  refine ⟨roundDiv n (2 ^ excessBits prec n), excessBits prec n, rfl, roundDiv_excessBits_le prec n, by omega, by omega,
    fun he => ?_, fun _ htie => roundDiv_even_of_tie (Nat.two_pow_pos _) htie⟩
  have hn : n ≠ 0 := by
    rintro rfl
    rw [excessBits, Nat.log2_zero] at he
    omega
  exact (pow_excessBits_le hprec hn).resolve_left he.ne'

/-! ### MT_RESTORE after MT_SAVE (R175) -/

/-- The blob's words are the engine's (R173). -/
theorem ofBlobWords_blobOf (g : Generator) : ofBlobWords (leWords (blobOf g)) = g := by
  have hvector : (Vector.ofFn fun i : Fin 624 => (g.mt.toList ++ [g.mti]).getD i.val 0#32) = g.mt :=
    Vector.ext fun i hi => by simp [List.getD_eq_getElem?_getD, List.getElem?_append_left]
  have hcursor : (g.mt.toList ++ [g.mti]).getD 624 0#32 = g.mti := by simp [List.getD_eq_getElem?_getD]
  rw [ofBlobWords, leWords_blobOf, hvector, hcursor]

theorem generatorAt_saved {s u : State} (h : InSpace s.x[0].toNat 2500) (hm : Memory.wf s.mem = true) {v : Word}
    (hmem : u.mem = (storeAndReturn (blobOf s.gen) v s).mem) : generatorAt u s.x[0].toNat = s.gen := by
  have hlength : (blobOf s.gen).length = blobBytes := length_blobOf s.gen
  have hread := readBytes_writeBytes_same (bs := blobOf s.gen) (by rwa [hlength]) hm
  rw [hlength] at hread
  rw [← ofBlobWords_readBytes, hmem, storeAndReturn_mem, hread, ofBlobWords_blobOf]

/-- Settles O59: the engine that the saved blob gives is the one saved, and its cursor passes the check. -/
theorem restoreBringsTheSavedEngineBack : Obligations.RestoreBringsTheSavedEngineBack := by
  unfold Obligations.RestoreBringsTheSavedEngineBack
  rintro s _ u hcursor hlen hwrite hm ⟨⟩ hmem hx hread
  rw [mtSave_saved hlen hwrite] at hmem
  have hgen := generatorAt_saved hwrite.1 hm hmem
  have hmti : wordAt u (s.x[0].toNat + 2496) = s.gen.mti := congrArg Generator.mti hgen
  rw [← hx] at hread
  refine ⟨_, rfl, ?_⟩
  rw [mtRestore_read hread, hx, hgen, hmti, if_neg hcursor.not_gt]
  exact ⟨rfl, rfl⟩

/-! ### Equal engines draw alike (R176) -/

/-- Seeding and drawing see the operands and the engine alone. -/
theorem exec_draws_alike {i : Instr} (hi : i ∈ [Instr.mtSeed, .mtRand32, .mtRandFloat, .mtRandDouble, .mtRandRange])
    {s s' : State} (hx : s.x = s'.x) (hgen : s.gen = s'.gen) :
    ∃ t t', exec i s = .next t ∧ exec i s' = .next t' ∧ t.x = t'.x ∧ t.gen = t'.gen := by
  simp only [List.mem_cons, List.not_mem_nil, or_false] at hi
  rcases hi with rfl | rfl | rfl | rfl | rfl
  · exact ⟨_, _, rfl, rfl, hx, by simp only [mtSeed, finish_gen, hx]⟩
  · exact ⟨_, _, rfl, rfl, by simp only [mtRand32, finish_x, setX_x, hx, hgen], by
      simp only [mtRand32, finish_gen, setX_gen, hgen]⟩
  · exact ⟨_, _, rfl, rfl, by simp only [mtRandFloat, finish_x, setX_x, hx, hgen], by
      simp only [mtRandFloat, finish_gen, setX_gen, hgen]⟩
  · exact ⟨_, _, rfl, rfl, by simp only [mtRandDouble, finish_x, setPair0_x, hx, hgen], by
      simp only [mtRandDouble, finish_gen, setPair0_gen, hgen]⟩
  · refine ⟨_, _, rfl, rfl, ?_⟩
    by_cases h : s.x[1].toInt < s.x[0].toInt
    · rw [mtRandRange_reversed h, mtRandRange_reversed (hx ▸ h)]
      exact ⟨hx, hgen⟩
    · rw [mtRandRange_drawn (Int.not_lt.1 h), mtRandRange_drawn (Int.not_lt.1 (hx ▸ h))]
      exact ⟨by simp only [finish_x, setX_x, rangeSize, hx, hgen], by simp only [finish_gen, setX_gen, hgen]⟩

/-- Settles O60: by induction on the sequence, the engines staying equal. -/
theorem drawsDependOnTheEngineAlone : Obligations.DrawsDependOnTheEngineAlone := by
  unfold Obligations.DrawsDependOnTheEngineAlone
  intro cs hcs
  induction cs with
  | nil => exact fun s s' _ => ⟨rfl, rfl⟩
  | cons c cs ih =>
    intro s s' hgen
    obtain ⟨x, i⟩ := c
    obtain ⟨t, t', ht, ht', hx, hgen'⟩ := exec_draws_alike (hcs _ List.mem_cons_self)
      (s := { s with x := x }) (s' := { s' with x := x }) rfl hgen
    obtain ⟨hrest, hlength⟩ := ih (fun d hd => hcs d (List.mem_cons_of_mem _ hd)) t t' hgen'
    dsimp only at ht ht'
    simp only [resultsOf, ht, ht', hx, hrest, List.length_cons, true_and]
    rw [← hrest, hlength]

end Sys2Proof.Machine
